-- ==== Sys2Proof/Word.lean ====
section
/-! DEFINITION. The two word types of the block (00_scope.md R10): a byte is 8 bits, a word is 16 bits. -/

namespace Sys2Proof

/-- 8 bits: a memory cell, an 8-bit register, an opcode or operand byte (R10). -/
abbrev Byte := BitVec 8

/-- 16 bits: an address, a program counter, a register pair, a port number (R10). -/
abbrev Word := BitVec 16

end Sys2Proof
end

