-- ==== Sys2Proof/Machine/Bits.lean ====
section
/-! DEFINITION. Byte order, extension and bit fields (00_scope.md R11, R12, R16). -/

namespace Sys2Proof

/-- `word(hi, lo)` (R12). -/
def word (hi lo : Byte) : Word := hi ++ lo

/-- `hi(w) = w[15:8]` (R12). -/
def hiByte (w : Word) : Byte := w.extractLsb' 8 8

/-- `lo(w) = w[7:0]` (R12). -/
def loByte (w : Word) : Byte := w.extractLsb' 0 8

/-- `zext_16(b)` (R12). -/
def zext16 (b : Byte) : Word := b.setWidth 16

/-- `sext_16(b)` (R12). -/
def sext16 (b : Byte) : Word := b.signExtend 16

/-- `v[i]` of a byte, as a truth value (R11). -/
def bit (v : Byte) (i : Nat) : Bool := v.getLsbD i

/-- The field of `n` bits of a byte from bit `lo` up (R11), as a number. -/
def field (v : Byte) (lo n : Nat) : Nat := (v.extractLsb' lo n).toNat

/-- `(cond)` in arithmetic: 1 when it holds, else 0 (R16). -/
def bitNat (c : Bool) : Nat := c.toNat

/-- `parity(v)`: true when `v` has an even number of 1 bits (R16). -/
def parity (v : Byte) : Bool :=
  !(bit v 0 ^^ bit v 1 ^^ bit v 2 ^^ bit v 3 ^^ bit v 4 ^^ bit v 5 ^^ bit v 6 ^^ bit v 7)

end Sys2Proof
end

