-- ==== Sys2Proof/Machine/Memory.lean ====
section
/-! DEFINITION. `MEM` (10_state.md R20) as a list of cells in one canonical form: addresses strictly rising, all below
65536, and no cell holding what an unlisted address reads as. -/

namespace Sys2Proof.Machine

/-- What an address without a cell reads as: the default of `INIT_MEM`, 0x00 (R9, D4; log entry 4). Other contents at
creation are listed as cells. -/
def Memory.unlisted : Byte := 0

/-- The byte at an address. -/
def Memory.get : List Host.Cell → Nat → Byte
  | [], _ => Memory.unlisted
  | c :: m, a => if c.1 = a then c.2 else Memory.get m a

/-- The cells without those of an address. -/
def Memory.erase (m : List Host.Cell) (a : Nat) : List Host.Cell := m.filter (fun c => c.1 != a)

/-- A cell put before the first cell of a higher address. -/
def Memory.insert (a : Nat) (v : Byte) : List Host.Cell → List Host.Cell
  | [] => [(a, v)]
  | c :: m => if a < c.1 then (a, v) :: c :: m else c :: Memory.insert a v m

/-- `MEM[a] <- v`: a value that unlisted addresses read as needs no cell. -/
def Memory.set (m : List Host.Cell) (a : Nat) (v : Byte) : List Host.Cell :=
  if v = Memory.unlisted then Memory.erase m a else Memory.insert a v (Memory.erase m a)

/-- The canonical form. -/
def Memory.wf (m : List Host.Cell) : Bool :=
  decide (m.Pairwise (fun c d => c.1 < d.1)) && m.all (fun c => decide (c.1 < 65536) && c.2 != Memory.unlisted)

end Sys2Proof.Machine
end

