-- ==== Sys2Proof/Config.lean ====
section
/-! DEFINITION. The launch parameters of a session (00_scope.md R9, 92_eei_decisions.md section 2) as plain data.
The spec gives these to the host, not to the program: no instruction reads them as data and no step changes
them. A parameter that the spec types as a function over a finite domain is held as the finite list of the
places where it differs from the spec's default, so every such function can be written down. -/

namespace Sys2Proof

/-- `CPU_KIND` (R9): which CPU the session instantiates. -/
inductive CpuKind where
  | a
  | b
  deriving DecidableEq, Repr

/-- `CHIP_KIND` (R9): which sound chip's register file and decoder are attached. -/
inductive ChipKind where
  | nesApu
  | sid
  | pokey
  | ay
  deriving DecidableEq, Repr

/-- What `PORT_MAP` says a port of CPU-B is (R534). -/
inductive PortRole where
  | aySelect
  | ayData
  | unmapped
  deriving DecidableEq, Repr

/-- A frequency in hertz as an exact fraction `num / den` (the clocks of R9, the results of R544, R547, R550, R553). -/
structure Hz where
  num : Nat
  den : Nat
  deriving DecidableEq, Repr

/-- One entry that replaces a default of `CYC_A` / `CYC_B` (R640): the opcode bytes of the instruction read as one
number (`opcodeKey`), the variant (taken, or repeating), and the cost. -/
structure CycleEntry where
  opcode : Nat
  variant : Bool
  cost : Nat
  deriving DecidableEq, Repr

/-- The launch parameters of a session (R9, R38). -/
structure Params where
  /-- `CPU_KIND`. -/
  cpu : CpuKind
  /-- `CHIP_KIND`. -/
  chip : ChipKind
  /-- `CHIP_BASE`: first address forwarded to the shadow register file of a memory-mapped chip (R530). -/
  chipBase : Nat
  /-- `CHIP_SIZE`: how many registers the shadow register file has (R530). -/
  chipSize : Nat
  /-- `IO_READ` (R85): the ports that do not answer 0xFF, with what they answer. -/
  ioRead : List (Nat × Byte)
  /-- `PORT_MAP` (R534): the ports whose role is not the default one, with their role. -/
  portMap : List (Nat × PortRole)
  /-- `SENTINEL` (R615). -/
  sentinel : Word
  /-- `GATE_NEEDS_VOLUME` (R537). -/
  gateNeedsVolume : Bool
  /-- `POKEY_TONE_PRED` (R549): bit `v` is 1 when the AUDC value `v` counts as a tone. -/
  pokeyTone : BitVec 256
  /-- `NES_CLOCK` (R544). -/
  nesClock : Hz
  /-- `SID_CLOCK` (R547). -/
  sidClock : Hz
  /-- `POKEY_CLOCK` (R550). -/
  pokeyClock : Hz
  /-- `AY_CLOCK` (R553). -/
  ayClock : Hz
  /-- `CYC_A`, `CYC_B` (R640): the entries that differ from the default tables R641, R642. -/
  cycles : List CycleEntry
  deriving DecidableEq, Repr

/-- `CHIP_BASE` by default (R530). The AY has no address range. -/
def ChipKind.defaultBase : ChipKind → Nat
  | .nesApu => 0x4000
  | .sid => 0xD400
  | .pokey => 0xD200
  | .ay => 0

/-- How many registers the chip's shadow register file has by default (R530, R35). -/
def ChipKind.registers : ChipKind → Nat
  | .nesApu => 0x18
  | .sid => 0x19
  | .pokey => 0x09
  | .ay => 16

/-- The parameters with every default of R9, for the given CPU and chip. `SENTINEL` has no default in the spec: 0xFFFF
is the value of the spec's own vectors (95_test_vectors.md), log entry 5. -/
def Params.default (cpu : CpuKind) (chip : ChipKind) : Params where
  cpu := cpu
  chip := chip
  chipBase := chip.defaultBase
  chipSize := chip.registers
  ioRead := []
  portMap := []
  sentinel := 0xFFFF
  gateNeedsVolume := true
  pokeyTone := 0xFFFFFFFF00000000FFFFFFFF0000000000000000000000000000000000000000
  nesClock := ⟨1789773, 1⟩
  sidClock := ⟨985248, 1⟩
  pokeyClock := ⟨1789790, 1⟩
  ayClock := ⟨1773400, 1⟩
  cycles := []

/-- A free value: the byte that a decoder reads at an index past the end of `SHADOW`. The spec lets the host supply any
`CHIP_SIZE` (R530) and states no byte there (DESIGN CHOICE, log entry 11). It may depend on the register file and on the
index and on nothing else, because the decoders are pure (R536). -/
opaque absentRegister (shadow : List Byte) (i : Nat) : Byte

/-- A configuration the spec accepts (93_implementation_defined.md U7, U8, U11): a memory-mapped chip's range does not
wrap past 0xFFFF, clocks are positive, and every cycle cost is at least 1. Every size of the register file is accepted,
also one below what the chip's decoder reads (R530, log entry 11). -/
def Params.wf (p : Params) : Bool :=
  (match p.chip with
   | .ay => true
   | .nesApu | .sid | .pokey => decide (p.chipBase + p.chipSize ≤ 65536)) &&
  [p.nesClock, p.sidClock, p.pokeyClock, p.ayClock].all (fun f => decide (0 < f.num) && decide (0 < f.den)) &&
  p.cycles.all (fun e => decide (1 ≤ e.cost))

end Sys2Proof
end

