-- ==== Sys2Proof/Syntax.lean ====
section
/-! DEFINITION. The instructions of both CPUs as syntax (30_encoding.md). A constructor of `Instr` is one instruction
rule of files 40 to 45; the rows of the opcode table that differ only in the operand form (CPU-A's addressing
modes, CPU-B's `r` / `n` / `(HL)` / `(XY+d)`) are one constructor with that form as its argument. Constructors of
CPU-A begin with `a`, those of CPU-B with `b`. -/

namespace Sys2Proof

/-- CPU-A's modes that yield an effective address (R109 to R116), with their operand bytes. -/
inductive AddrMode where
  | zp (z : Byte)
  | zpx (z : Byte)
  | zpy (z : Byte)
  | abs (nn : Word)
  | absx (nn : Word)
  | absy (nn : Word)
  | indx (z : Byte)
  | indy (z : Byte)
  deriving DecidableEq, Repr

/-- What a CPU-A instruction that reads one byte reads: an immediate (R108) or the byte at an effective address. -/
inductive AOperand where
  | imm (n : Byte)
  | mem (m : AddrMode)
  deriving DecidableEq, Repr

/-- What a CPU-A shift or rotate works on: the accumulator (R107) or the byte at an effective address. -/
inductive ATarget where
  | acc
  | mem (m : AddrMode)
  deriving DecidableEq, Repr

/-- CPU-B's 8-bit registers that the code `r` or `s` selects (R126); code 6 is no register. -/
inductive Reg8 where
  | b
  | c
  | d
  | e
  | h
  | l
  | a
  deriving DecidableEq, Repr

/-- CPU-B's pairs `dd` / `ss` (R126). -/
inductive Pair where
  | bc
  | de
  | hl
  | sp
  deriving DecidableEq, Repr

/-- CPU-B's pairs `qq` of PUSH and POP (R126). -/
inductive StackPair where
  | bc
  | de
  | hl
  | af
  deriving DecidableEq, Repr

/-- CPU-B's pairs `pp` / `rr` of ADD IX and ADD IY (R126): `xy` is the index register itself. -/
inductive IndexPair where
  | bc
  | de
  | xy
  | sp
  deriving DecidableEq, Repr

/-- The index register a DD or FD prefix selects (R126, field `i`). -/
inductive Index where
  | ix
  | iy
  deriving DecidableEq, Repr

/-- The eight conditions of JP, CALL and RET (R450). -/
inductive Cond where
  | nz
  | z
  | nc
  | c
  | po
  | pe
  | p
  | m
  deriving DecidableEq, Repr

/-- The four conditions of JR (R450). -/
inductive JrCond where
  | nz
  | z
  | nc
  | c
  deriving DecidableEq, Repr

/-- CPU-B's interrupt mode `IM` (R33, R508). -/
inductive IntMode where
  | im0
  | im1
  | im2
  deriving DecidableEq, Repr

/-- The second operand of the eight accumulator operations (R371). -/
inductive Src8 where
  | reg (r : Reg8)
  | imm (n : Byte)
  | hl
  | idx (i : Index) (d : Byte)
  deriving DecidableEq, Repr

/-- The 8-bit location that INC, DEC and the CB family work on (R380, R404). -/
inductive Loc8 where
  | reg (r : Reg8)
  | hl
  | idx (i : Index) (d : Byte)
  deriving DecidableEq, Repr

/-- The instructions (30_encoding.md R104, R120, R121, R125, R133). -/
inductive Instr where
  -- CPU-A loads, stores, transfers, stack bytes (40_cpua_load_store.md)
  | aLda (m : AOperand)
  | aLdx (m : AOperand)
  | aLdy (m : AOperand)
  | aSta (m : AddrMode)
  | aStx (m : AddrMode)
  | aSty (m : AddrMode)
  | aTax
  | aTay
  | aTxa
  | aTya
  | aTsx
  | aTxs
  | aPha
  | aPhp
  | aPla
  | aPlp
  -- CPU-A arithmetic and logic (41_cpua_arith_logic.md)
  | aAdc (m : AOperand)
  | aSbc (m : AOperand)
  | aAnd (m : AOperand)
  | aOra (m : AOperand)
  | aEor (m : AOperand)
  | aCmp (m : AOperand)
  | aCpx (m : AOperand)
  | aCpy (m : AOperand)
  | aBit (m : AddrMode)
  | aInc (m : AddrMode)
  | aDec (m : AddrMode)
  | aInx
  | aIny
  | aDex
  | aDey
  | aAsl (t : ATarget)
  | aLsr (t : ATarget)
  | aRol (t : ATarget)
  | aRor (t : ATarget)
  -- CPU-A control (42_cpua_control.md)
  | aBpl (e : Byte)
  | aBmi (e : Byte)
  | aBvc (e : Byte)
  | aBvs (e : Byte)
  | aBcc (e : Byte)
  | aBcs (e : Byte)
  | aBne (e : Byte)
  | aBeq (e : Byte)
  | aJmp (nn : Word)
  | aJmpInd (ptr : Word)
  | aJsr (nn : Word)
  | aRts
  | aClc
  | aSec
  | aCli
  | aSei
  | aClv
  | aCld
  | aSed
  | aNop
  /-- undocumented one-byte no-op, with its opcode byte (R282) -/
  | aNop1 (op : Byte)
  /-- undocumented two-byte no-op, with its opcode byte and its ignored operand byte (R283) -/
  | aNop2 (op n : Byte)
  /-- unknown opcode, with its byte (R284) -/
  | aUnk (op : Byte)
  /-- 0x00, BRK on a 6502 (R285) -/
  | aBrk
  /-- 0x40, RTI on a 6502 (R285) -/
  | aRti
  -- CPU-B 8-bit loads (43_cpub_load_exchange.md)
  | bLdRR (r s : Reg8)
  | bLdRN (r : Reg8) (n : Byte)
  | bLdRHl (r : Reg8)
  | bLdRXy (r : Reg8) (i : Index) (d : Byte)
  | bLdHlR (s : Reg8)
  | bLdXyR (i : Index) (d : Byte) (s : Reg8)
  | bLdHlN (n : Byte)
  | bLdXyN (i : Index) (d n : Byte)
  | bLdABc
  | bLdADe
  | bLdAMem (nn : Word)
  | bLdBcA
  | bLdDeA
  | bLdMemA (nn : Word)
  | bLdAI
  | bLdARefresh
  | bLdIA
  | bLdRefreshA
  -- CPU-B 16-bit loads
  | bLdDdNn (p : Pair) (nn : Word)
  | bLdXyNn (i : Index) (nn : Word)
  | bLdHlMem (nn : Word)
  | bLdDdMem (p : Pair) (nn : Word)
  | bLdXyMem (i : Index) (nn : Word)
  | bLdMemHl (nn : Word)
  | bLdMemDd (nn : Word) (p : Pair)
  | bLdMemXy (nn : Word) (i : Index)
  | bLdSpHl
  | bLdSpXy (i : Index)
  | bPush (q : StackPair)
  | bPushXy (i : Index)
  | bPop (q : StackPair)
  | bPopXy (i : Index)
  -- CPU-B exchanges, block transfer, block search
  | bExDeHl
  | bExAf
  | bExx
  | bExSpHl
  | bExSpXy (i : Index)
  | bLdi
  | bLdir
  | bLdd
  | bLddr
  | bCpi
  | bCpir
  | bCpd
  | bCpdr
  -- CPU-B 8-bit arithmetic and logic (44_cpub_arith_logic.md)
  | bAdd (m : Src8)
  | bAdc (m : Src8)
  | bSub (m : Src8)
  | bSbc (m : Src8)
  | bAnd (m : Src8)
  | bXor (m : Src8)
  | bOr (m : Src8)
  | bCp (m : Src8)
  | bInc (v : Loc8)
  | bDec (v : Loc8)
  | bDaa
  | bCpl
  | bNeg
  | bCcf
  | bScf
  -- CPU-B 16-bit arithmetic
  | bAddHl (p : Pair)
  | bAdcHl (p : Pair)
  | bSbcHl (p : Pair)
  | bAddXy (i : Index) (p : IndexPair)
  | bIncSs (p : Pair)
  | bIncXy (i : Index)
  | bDecSs (p : Pair)
  | bDecXy (i : Index)
  -- CPU-B rotates, shifts, bit operations
  | bRlca
  | bRla
  | bRrca
  | bRra
  | bRlc (v : Loc8)
  | bRrc (v : Loc8)
  | bRl (v : Loc8)
  | bRr (v : Loc8)
  | bSla (v : Loc8)
  | bSra (v : Loc8)
  | bSrl (v : Loc8)
  | bRld
  | bRrd
  | bBit (b : Fin 8) (v : Loc8)
  | bSet (b : Fin 8) (v : Loc8)
  | bRes (b : Fin 8) (v : Loc8)
  -- CPU-B jumps, calls, returns (45_cpub_control_io.md)
  | bJp (nn : Word)
  | bJpCc (cc : Cond) (nn : Word)
  | bJr (e : Byte)
  | bJrCc (cc : JrCond) (e : Byte)
  | bJpHl
  | bJpXy (i : Index)
  | bDjnz (e : Byte)
  | bCall (nn : Word)
  | bCallCc (cc : Cond) (nn : Word)
  | bRet
  | bRetCc (cc : Cond)
  | bReti
  | bRetn
  | bRst (t : Fin 8)
  -- CPU-B port input and output
  | bInAN (n : Byte)
  | bInRC (r : Reg8)
  | bIni
  | bInir
  | bInd
  | bIndr
  | bOutNA (n : Byte)
  | bOutCR (r : Reg8)
  | bOuti
  | bOtir
  | bOutd
  | bOtdr
  -- CPU-B control
  | bNop
  | bHalt
  | bDi
  | bEi
  | bIm (m : IntMode)
  /-- `CB 30+s` (R417) -/
  | bUnkCb (s : Fin 8)
  /-- `ED x`, `x` outside R130 -/
  | bUnkEd (x : Byte)
  /-- a lone DD or FD prefix (R133) -/
  | bUnkXy (i : Index)
  /-- `DD/FD CB d x`, `x` outside R132 -/
  | bUnkXycb (i : Index) (d x : Byte)
  deriving DecidableEq, Repr

end Sys2Proof
end

