-- ==== Sys2Proof/Machine/State.lean ====
section
/-! DEFINITION. The state of a session as plain data (10_state.md), the two reason types of a step, and the state right
after reset. -/

namespace Sys2Proof.Machine

/-- Why a step could fault. The type is empty: nothing in the block faults, no instruction raises an exception
(60_exceptions.md R580, R582; log entry 14). -/
inductive Fault where
  deriving DecidableEq, Repr

/-- Why a step could be refused. -/
inductive Refusal where
  /-- The instruction has no meaning in the model. Nobody raises it: every instruction has its meaning. It would be
  safe: the model would stop where the hardware goes on. -/
  | notModelled (mnemonic : String)
  deriving DecidableEq, Repr

/-- CPU-A's six stored flags (R25). Bits 5 and 4 of the status byte are not stored. -/
structure PFlags where
  n : Bool
  v : Bool
  d : Bool
  i : Bool
  z : Bool
  c : Bool
  deriving DecidableEq, Repr

/-- CPU-A's registers (R22 to R26). -/
structure CpuA where
  a : Byte
  x : Byte
  y : Byte
  s : Byte
  pc : Word
  p : PFlags
  deriving DecidableEq, Repr

/-- One bank of CPU-B's 8-bit registers (R27, R28). `f` is the flag byte of R31, all eight bits stored. -/
structure Bank where
  a : Byte
  f : Byte
  b : Byte
  c : Byte
  d : Byte
  e : Byte
  h : Byte
  l : Byte
  deriving DecidableEq, Repr

/-- CPU-B's registers (R27 to R34). -/
structure CpuB where
  /-- the main register file (R27) -/
  main : Bank
  /-- the shadow register file (R28) -/
  alt : Bank
  ix : Word
  iy : Word
  sp : Word
  pc : Word
  /-- the interrupt-page register (R32) -/
  i : Byte
  /-- the memory-refresh register (R32) -/
  r : Byte
  iff1 : Bool
  iff2 : Bool
  im : IntMode
  deriving DecidableEq, Repr

/-- The state of a session. The registers of both CPUs have a home here; `params.cpu` says which CPU the session has and
the other one is never stepped (R593, log entry 7). -/
structure State where
  /-- the launch parameters (R9, R38): no step changes them -/
  params : Params
  cpuA : CpuA
  cpuB : CpuB
  /-- `MEM` (R20), in the canonical form of `Memory.wf` -/
  mem : List Host.Cell
  /-- `SHADOW` (R35), index 0 first -/
  shadow : List Byte
  /-- `AYSEL` (R36) -/
  aySel : Byte
  /-- what the last step returned (R613): the model's own field, log entry 8 -/
  cycles : Nat
  deriving DecidableEq, Repr

/-- CPU-A after `reset(pc, sp)` (R39). -/
def CpuA.reset (pc : Word) (sp : Byte) : CpuA where
  a := 0
  x := 0
  y := 0
  s := sp
  pc := pc
  p := { n := false, v := false, d := false, i := true, z := false, c := false }

/-- A bank with every register 0 (R39). -/
def Bank.zero : Bank where
  a := 0
  f := 0
  b := 0
  c := 0
  d := 0
  e := 0
  h := 0
  l := 0

/-- CPU-B after `reset(pc, sp)` (R39). -/
def CpuB.reset (pc sp : Word) : CpuB where
  main := Bank.zero
  alt := Bank.zero
  ix := 0
  iy := 0
  sp := sp
  pc := pc
  i := 0
  r := 0
  iff1 := false
  iff2 := false
  im := .im0

/-- A session right after its creation with empty `INIT_MEM` and `reset` (R39, R611): memory as created, `SHADOW` and
`AYSEL` zero. -/
def State.fresh (p : Params) (pcA : Word) (spA : Byte) (pcB spB : Word) : State where
  params := p
  cpuA := CpuA.reset pcA spA
  cpuB := CpuB.reset pcB spB
  mem := []
  shadow := List.replicate p.chipSize 0
  aySel := 0
  cycles := 0

/-- The machine right after reset. The spec lets the host choose the CPU, the chip, `pc` and `sp`: CPU-A, the NES APU,
0x0000, and 0xFF for CPU-A or 0xFF00 for CPU-B are the model's choice (DESIGN CHOICE, log entry 2); every other
register has the value of R39. -/
def State.reset : State := State.fresh (Params.default .a .nesApu) 0x0000 0xFF 0x0000 0xFF00

end Sys2Proof.Machine
end

