-- ==== Sys2Proof/Machine/Ops.lean ====
section
/-! DEFINITION. The operations over memory, ports, registers and stacks that the instruction rules use (00_scope.md R13
to R16, 20_memory.md, 50_sound_chip_decoders.md section 1). There is no operation that takes an exception and none
that returns from one: the block has no exception (60_exceptions.md R580, R586, R587; log entry 14). -/

namespace Sys2Proof.Machine

/-! ### Memory -/

/-- `MemRead(addr, 1)`, AddressSpace `read` (R71): no side effect. -/
def State.read (s : State) (a : Word) : Byte := Memory.get s.mem a.toNat

/-- Step (2) of AddressSpace `write` (R72): the byte is stored, unconditionally. -/
def State.store (s : State) (a : Word) (v : Byte) : State := { s with mem := Memory.set s.mem a.toNat v }

/-- `SHADOW[k] <- v`; an index past the end changes nothing (log entry 11). -/
def State.setShadow (s : State) (k : Nat) (v : Byte) : State := { s with shadow := s.shadow.set k v }

/-- The index in `SHADOW` that a memory address is forwarded to, if any (R530, R531). The AY has no address range. -/
def State.chipIndex (s : State) (a : Word) : Option Nat :=
  match s.params.chip with
  | .ay => none
  | .nesApu | .sid | .pokey =>
    if s.params.chipBase ≤ a.toNat ∧ a.toNat < s.params.chipBase + s.params.chipSize then
      some (a.toNat - s.params.chipBase)
    else none

/-- Step (3) of `write`: the forwarding intercept (R531), the only intercept of the block (R74, log entry 10). -/
def State.forward (s : State) (a : Word) (v : Byte) : State :=
  match s.chipIndex a with
  | some k => s.setShadow k v
  | none => s

/-- `MemWrite(addr, 1, v)`, AddressSpace `write` (R72): store, then the intercepts. -/
def State.write (s : State) (a : Word) (v : Byte) : State := (s.store a v).forward a v

/-- `MemRead(addr, 2)` (R14): low byte at the lower address, the second address modulo 65536. -/
def State.read16 (s : State) (a : Word) : Word := word (s.read (a + 1)) (s.read a)

/-- `MemWrite(addr, 2, v)` (R14): the low byte first. -/
def State.write16 (s : State) (a w : Word) : State := (s.write a (loByte w)).write (a + 1) (hiByte w)

/-- `loadBlock(addr, bytes)` (R75): no intercepts; addresses wrap. -/
def State.loadBlock (s : State) (a : Word) : List Byte → State
  | [] => s
  | b :: bs => State.loadBlock (s.store a b) (a + 1) bs

/-! ### Ports -/

/-- `IoRead(port)` (R85): `IO_READ`, 0xFF for every port the parameters do not list. -/
def ioRead (p : Params) (port : Word) : Byte :=
  match p.ioRead.find? (fun e => e.1 == port.toNat) with
  | some e => e.2
  | none => 0xFF

/-- `PORT_MAP(port)` (R534): by default the high byte decides. -/
def portRole (p : Params) (port : Word) : PortRole :=
  match p.portMap.find? (fun e => e.1 == port.toNat) with
  | some e => e.2
  | none => if hiByte port = 0xFF then .aySelect else if hiByte port = 0xBF then .ayData else .unmapped

/-- The AY port device (R534). A data write past the end of a register file of fewer than 16 bytes is stored nowhere
(log entry 11, DESIGN CHOICE). -/
def State.ayWrite (s : State) (port : Word) (v : Byte) : State :=
  match portRole s.params port with
  | .aySelect => { s with aySel := v }
  | .ayData => if s.aySel.toNat < 16 then s.setShadow s.aySel.toNat v else s
  | .unmapped => s

/-- `IoWrite(port, v)` (R84, R534): for every other chip it does nothing. -/
def State.ioWrite (s : State) (port : Word) (v : Byte) : State :=
  match s.params.chip with
  | .ay => s.ayWrite port v
  | .nesApu | .sid | .pokey => s

/-! ### CPU-A's registers and stack -/

/-- `A <- v` on CPU-A. -/
def State.setA (s : State) (v : Byte) : State := { s with cpuA := { s.cpuA with a := v } }

/-- `X <- v`. -/
def State.setX (s : State) (v : Byte) : State := { s with cpuA := { s.cpuA with x := v } }

/-- `Y <- v`. -/
def State.setY (s : State) (v : Byte) : State := { s with cpuA := { s.cpuA with y := v } }

/-- `S <- v`. -/
def State.setS (s : State) (v : Byte) : State := { s with cpuA := { s.cpuA with s := v } }

/-- `PC <- w` on CPU-A. -/
def State.setPcA (s : State) (w : Word) : State := { s with cpuA := { s.cpuA with pc := w } }

/-- CPU-A's flags replaced. -/
def State.setP (s : State) (p : PFlags) : State := { s with cpuA := { s.cpuA with p := p } }

/-- The stack address `0x0100 | S` (R23). -/
def stackAddrA (s : Byte) : Word := word 0x01 s

/-- `push8_A(v)` (R16). -/
def State.push8A (s : State) (v : Byte) : State := (s.write (stackAddrA s.cpuA.s) v).setS (s.cpuA.s - 1)

/-- `pull8_A()` (R16), the state after it: `S` is incremented. -/
def State.pull8A (s : State) : State := s.setS (s.cpuA.s + 1)

/-- `pull8_A()` (R16), the byte it returns: read at the incremented `S`. -/
def State.pulled8A (s : State) : Byte := s.read (stackAddrA (s.cpuA.s + 1))

/-- CPU-A's push of a word, high byte first (R272, R615). -/
def State.push16A (s : State) (w : Word) : State := (s.push8A (hiByte w)).push8A (loByte w)

/-- The word that two pulls return, low byte first (R273). -/
def State.pulled16A (s : State) : Word := word s.pull8A.pulled8A s.pulled8A

/-! ### CPU-B's registers and stack -/

/-- `x[i]` (R13). -/
def State.reg (s : State) : Reg8 → Byte
  | .b => s.cpuB.main.b
  | .c => s.cpuB.main.c
  | .d => s.cpuB.main.d
  | .e => s.cpuB.main.e
  | .h => s.cpuB.main.h
  | .l => s.cpuB.main.l
  | .a => s.cpuB.main.a

/-- The main bank replaced. -/
def State.setMain (s : State) (m : Bank) : State := { s with cpuB := { s.cpuB with main := m } }

/-- `x[i] <- v` (R13). -/
def State.setReg (s : State) (r : Reg8) (v : Byte) : State :=
  match r with
  | .b => s.setMain { s.cpuB.main with b := v }
  | .c => s.setMain { s.cpuB.main with c := v }
  | .d => s.setMain { s.cpuB.main with d := v }
  | .e => s.setMain { s.cpuB.main with e := v }
  | .h => s.setMain { s.cpuB.main with h := v }
  | .l => s.setMain { s.cpuB.main with l := v }
  | .a => s.setMain { s.cpuB.main with a := v }

/-- The whole flag byte `F <- v`. -/
def State.setF (s : State) (v : Byte) : State := s.setMain { s.cpuB.main with f := v }

/-- `BC` (R27). -/
def State.bc (s : State) : Word := word s.cpuB.main.b s.cpuB.main.c

/-- `DE` (R27). -/
def State.de (s : State) : Word := word s.cpuB.main.d s.cpuB.main.e

/-- `HL` (R27). -/
def State.hl (s : State) : Word := word s.cpuB.main.h s.cpuB.main.l

/-- `AF` (R27). -/
def State.af (s : State) : Word := word s.cpuB.main.a s.cpuB.main.f

/-- `BC <- w`. -/
def State.setBc (s : State) (w : Word) : State := s.setMain { s.cpuB.main with b := hiByte w, c := loByte w }

/-- `DE <- w`. -/
def State.setDe (s : State) (w : Word) : State := s.setMain { s.cpuB.main with d := hiByte w, e := loByte w }

/-- `HL <- w`. -/
def State.setHl (s : State) (w : Word) : State := s.setMain { s.cpuB.main with h := hiByte w, l := loByte w }

/-- `AF <- w`, all eight bits of `F` (R332). -/
def State.setAf (s : State) (w : Word) : State := s.setMain { s.cpuB.main with a := hiByte w, f := loByte w }

/-- `SP <- w`. -/
def State.setSp (s : State) (w : Word) : State := { s with cpuB := { s.cpuB with sp := w } }

/-- `PC <- w` on CPU-B. -/
def State.setPcB (s : State) (w : Word) : State := { s with cpuB := { s.cpuB with pc := w } }

/-- `rp[p]` (R13). -/
def State.pair (s : State) : Pair → Word
  | .bc => s.bc
  | .de => s.de
  | .hl => s.hl
  | .sp => s.cpuB.sp

/-- `rp[p] <- w`. -/
def State.setPair (s : State) (p : Pair) (w : Word) : State :=
  match p with
  | .bc => s.setBc w
  | .de => s.setDe w
  | .hl => s.setHl w
  | .sp => s.setSp w

/-- `rp2[p]` (R13). -/
def State.stackPair (s : State) : StackPair → Word
  | .bc => s.bc
  | .de => s.de
  | .hl => s.hl
  | .af => s.af

/-- `rp2[p] <- w`. -/
def State.setStackPair (s : State) (q : StackPair) (w : Word) : State :=
  match q with
  | .bc => s.setBc w
  | .de => s.setDe w
  | .hl => s.setHl w
  | .af => s.setAf w

/-- `XY` (R13): the index register the prefix selects. -/
def State.index (s : State) : Index → Word
  | .ix => s.cpuB.ix
  | .iy => s.cpuB.iy

/-- `XY <- w`. -/
def State.setIndex (s : State) (i : Index) (w : Word) : State :=
  match i with
  | .ix => { s with cpuB := { s.cpuB with ix := w } }
  | .iy => { s with cpuB := { s.cpuB with iy := w } }

/-- The operand `w` of ADD IX and ADD IY (R393): code 2 is the index register itself. -/
def State.indexPair (s : State) (i : Index) : IndexPair → Word
  | .bc => s.bc
  | .de => s.de
  | .xy => s.index i
  | .sp => s.cpuB.sp

/-- `EA(d) = (XY + sext_16(d)) & 0xFFFF` (R300). -/
def State.indexed (s : State) (i : Index) (d : Byte) : Word := s.index i + sext16 d

/-- `push16_B(w)` (R16): the high byte first, at the higher address. -/
def State.push16B (s : State) (w : Word) : State :=
  ((s.write (s.cpuB.sp - 1) (hiByte w)).write (s.cpuB.sp - 2) (loByte w)).setSp (s.cpuB.sp - 2)

/-- `pop16_B()` (R16), the word it returns. -/
def State.popped16B (s : State) : Word := s.read16 s.cpuB.sp

/-- `pop16_B()` (R16), the state after it. -/
def State.pop16B (s : State) : State := s.setSp (s.cpuB.sp + 2)

/-- The advance of `R` by `n` opcode fetches (R32): bit 7 is kept, bits 6:0 count modulo 128. -/
def State.advanceR (s : State) (n : Nat) : State :=
  { s with cpuB := { s.cpuB with r := (s.cpuB.r &&& 0x80) ||| ((s.cpuB.r + BitVec.ofNat 8 n) &&& 0x7F) } }

/-! ### Reset and the session's own registers -/

/-- `reset(pc, sp)` of the session's CPU (R610): memory, `SHADOW` and `AYSEL` are not touched. -/
def State.resetCpu (s : State) (pc sp : Word) : State :=
  match s.params.cpu with
  | .a => { s with cpuA := CpuA.reset pc (loByte sp) }
  | .b => { s with cpuB := CpuB.reset pc sp }

/-- `PC` of the session's CPU. -/
def State.pc (s : State) : Word :=
  match s.params.cpu with
  | .a => s.cpuA.pc
  | .b => s.cpuB.pc

/-- `SPR` of the session's CPU, as an unsigned number (70_reset_and_hazards.md). -/
def State.spr (s : State) : Nat :=
  match s.params.cpu with
  | .a => s.cpuA.s.toNat
  | .b => s.cpuB.sp.toNat

end Sys2Proof.Machine
end

