-- ==== Sys2Proof/Machine/Operands.lean ====
section
/-! DEFINITION. The operand forms: CPU-A's addressing modes (30_encoding.md R106 to R118) and CPU-B's operand and
location forms (44_cpub_arith_logic.md R371, R380, R404). -/

namespace Sys2Proof.Machine

/-- The pointer in page zero that starts at `z`, its second byte within page zero (R113, R114, R80). -/
def State.zpPointer (s : State) (z : Byte) : Word := word (s.read (zext16 (z + 1))) (s.read (zext16 z))

/-- The effective address of a mode (R109 to R116). -/
def State.ea (s : State) : AddrMode → Word
  | .zp z => zext16 z
  | .zpx z => zext16 (z + s.cpuA.x)
  | .zpy z => zext16 (z + s.cpuA.y)
  | .abs nn => nn
  | .absx nn => nn + zext16 s.cpuA.x
  | .absy nn => nn + zext16 s.cpuA.y
  | .indx z => s.zpPointer (z + s.cpuA.x)
  | .indy z => s.zpPointer z + zext16 s.cpuA.y

/-- The operand `M` of CPU-A (R201). -/
def State.operand (s : State) : AOperand → Byte
  | .imm n => n
  | .mem m => s.read (s.ea m)

/-- The operand `v` of CPU-A's shifts and rotates (R219). -/
def State.target (s : State) : ATarget → Byte
  | .acc => s.cpuA.a
  | .mem m => s.read (s.ea m)

/-- The result of a shift or rotate written back (R219, R203). -/
def State.setTarget (s : State) (t : ATarget) (v : Byte) : State :=
  match t with
  | .acc => s.setA v
  | .mem m => s.write (s.ea m) v

/-- The second operand `m` of CPU-B's accumulator operations (R371). -/
def State.src8 (s : State) : Src8 → Byte
  | .reg r => s.reg r
  | .imm n => n
  | .hl => s.read s.hl
  | .idx i d => s.read (s.indexed i d)

/-- The 8-bit location of INC, DEC and the CB family (R380, R404), read. -/
def State.loc8 (s : State) : Loc8 → Byte
  | .reg r => s.reg r
  | .hl => s.read s.hl
  | .idx i d => s.read (s.indexed i d)

/-- The same location written. -/
def State.setLoc8 (s : State) (v : Loc8) (r : Byte) : State :=
  match v with
  | .reg q => s.setReg q r
  | .hl => s.write s.hl r
  | .idx i d => s.write (s.indexed i d) r

/-- The memory address that a location form writes, if it is a memory form. -/
def State.loc8Addr (s : State) : Loc8 → Option Word
  | .reg _ => none
  | .hl => some s.hl
  | .idx i d => some (s.indexed i d)

/-- The conditions of JP, CALL and RET (R450). -/
def State.cond (s : State) : Cond → Bool
  | .nz => !bit s.cpuB.main.f 6
  | .z => bit s.cpuB.main.f 6
  | .nc => !bit s.cpuB.main.f 0
  | .c => bit s.cpuB.main.f 0
  | .po => !bit s.cpuB.main.f 2
  | .pe => bit s.cpuB.main.f 2
  | .p => !bit s.cpuB.main.f 7
  | .m => bit s.cpuB.main.f 7

/-- The conditions of JR (R450). -/
def State.jrCond (s : State) : JrCond → Bool
  | .nz => !bit s.cpuB.main.f 6
  | .z => bit s.cpuB.main.f 6
  | .nc => !bit s.cpuB.main.f 0
  | .c => bit s.cpuB.main.f 0

end Sys2Proof.Machine
end

