-- ==== Sys2Proof/Machine/Flags.lean ====
section
/-! DEFINITION. Every flag computation: CPU-A's status byte and result flags (10_state.md R25, 41_cpua_arith_logic.md),
CPU-B's flag byte and its arithmetic helpers (10_state.md R31, 44_cpub_arith_logic.md R370, R382). Sums and
differences are exact (Nat, Int) and narrowed once, as the pseudocode does (R11). -/

namespace Sys2Proof.Machine

/-! ### CPU-A -/

/-- `Pbyte()` (R25): bits 5 and 4 are 1. -/
def PFlags.toByte (p : PFlags) : Byte :=
  BitVec.ofBool p.n ++ BitVec.ofBool p.v ++ 3#2 ++ BitVec.ofBool p.d ++ BitVec.ofBool p.i ++ BitVec.ofBool p.z ++
    BitVec.ofBool p.c

/-- `setP(b)` (R25): bits 5 and 4 are ignored. -/
def PFlags.ofByte (b : Byte) : PFlags where
  n := bit b 7
  v := bit b 6
  d := bit b 3
  i := bit b 2
  z := bit b 1
  c := bit b 0

/-- `setNZ_A(v)` (R16). -/
def PFlags.nz (p : PFlags) (v : Byte) : PFlags := { p with n := bit v 7, z := v == 0 }

/-- `setNZ_A(v)` on the state. -/
def State.setNZ (s : State) (v : Byte) : State := s.setP (s.cpuA.p.nz v)

/-- The result and flags of ADC (R204): the sum's ninth bit is the carry. -/
def adcA (a m : Byte) (p : PFlags) : Byte × PFlags :=
  let t := a.toNat + m.toNat + bitNat p.c
  let r : Byte := BitVec.ofNat 8 t
  (r, { p.nz r with c := decide (255 < t), v := bit (~~~(a ^^^ m) &&& (a ^^^ r)) 7 })

/-- The result and flags of SBC (R205): the adder of ADC on the one's complement of `m`. -/
def sbcA (a m : Byte) (p : PFlags) : Byte × PFlags :=
  let t := a.toNat + (m ^^^ 0xFF).toNat + bitNat p.c
  let r : Byte := BitVec.ofNat 8 t
  (r, { p.nz r with c := decide (255 < t), v := bit ((a ^^^ m) &&& (a ^^^ r)) 7 })

/-- The flags of CMP, CPX and CPY (R209). -/
def cmpA (reg m : Byte) (p : PFlags) : PFlags :=
  { p with c := decide (m.toNat ≤ reg.toNat), z := reg == m, n := bit (reg - m) 7 }

/-- A shift's result byte and the bit shifted out. -/
abbrev Shifted := Byte × Bool

/-- Shift left, `c` into bit 0 (ASL, ROL, RLC, RL, SLA). -/
def shiftLeft (v : Byte) (c : Bool) : Shifted := ((v <<< 1) ||| (BitVec.ofBool c).setWidth 8, bit v 7)

/-- Shift right, `c` into bit 7 (LSR, ROR, RRC, RR, SRA, SRL). -/
def shiftRight (v : Byte) (c : Bool) : Shifted := ((v >>> 1) ||| ((BitVec.ofBool c).setWidth 8 <<< 7), bit v 0)

/-- The flags of CPU-A's shifts and rotates (R219 to R222). -/
def PFlags.shifted (p : PFlags) (r : Shifted) : PFlags := { p.nz r.1 with c := r.2 }

/-! ### CPU-B -/

/-- The six flags that CPU-B's instructions compute (R31); bits 5 and 3 of `F` are not among them. -/
structure FlagSet where
  s : Bool
  z : Bool
  h : Bool
  pv : Bool
  n : Bool
  c : Bool
  deriving DecidableEq, Repr

/-- The six flags of a flag byte (R31). -/
def FlagSet.ofByte (f : Byte) : FlagSet where
  s := bit f 7
  z := bit f 6
  h := bit f 4
  pv := bit f 2
  n := bit f 1
  c := bit f 0

/-- The six flags put into a flag byte; bits 5 and 3 keep their value (R31, R300). -/
def FlagSet.into (fl : FlagSet) (f : Byte) : Byte :=
  BitVec.ofBool fl.s ++ BitVec.ofBool fl.z ++ BitVec.ofBool (bit f 5) ++ BitVec.ofBool fl.h ++
    BitVec.ofBool (bit f 3) ++ BitVec.ofBool fl.pv ++ BitVec.ofBool fl.n ++ BitVec.ofBool fl.c

/-- CPU-B's six flags. -/
def State.flags (s : State) : FlagSet := FlagSet.ofByte s.cpuB.main.f

/-- CPU-B's six flags written. -/
def State.setFlags (s : State) (fl : FlagSet) : State := s.setF (fl.into s.cpuB.main.f)

/-- `sz(v)` (R16). -/
def FlagSet.sz (fl : FlagSet) (v : Byte) : FlagSet := { fl with s := bit v 7, z := v == 0 }

/-- `szp(v)` (R16). -/
def FlagSet.szp (fl : FlagSet) (v : Byte) : FlagSet := { fl.sz v with pv := parity v }

/-- `add8(a, b, c)` (R370): the result and all six flags. -/
def add8 (a b : Byte) (c : Bool) : Byte × FlagSet :=
  let t := a.toNat + b.toNat + bitNat c
  let r : Byte := BitVec.ofNat 8 t
  (r, { s := bit r 7, z := r == 0, h := decide (15 < a.toNat % 16 + b.toNat % 16 + bitNat c),
        pv := bit ((a ^^^ r) &&& (b ^^^ r)) 7, n := false, c := decide (255 < t) })

/-- `sub8(a, b, c)` (R370): the result and all six flags. -/
def sub8 (a b : Byte) (c : Bool) : Byte × FlagSet :=
  let t : Int := (a.toNat : Int) - b.toNat - bitNat c
  let r : Byte := BitVec.ofInt 8 t
  (r, { s := bit r 7, z := r == 0, h := decide (((a.toNat % 16 : Nat) : Int) - (b.toNat % 16 : Nat) - bitNat c < 0),
        pv := bit ((a ^^^ b) &&& (a ^^^ r)) 7, n := true, c := decide (t < 0) })

/-- `logic(r, h)` (R370). -/
def logic8 (r : Byte) (h : Bool) : FlagSet where
  s := bit r 7
  z := r == 0
  h := h
  pv := parity r
  n := false
  c := false

/-- The result and flags of INC on a byte (R380): C is kept. -/
def inc8 (v : Byte) (fl : FlagSet) : Byte × FlagSet :=
  let r := v + 1
  (r, { fl.sz r with h := v &&& 0x0F == 0x0F, pv := v == 0x7F, n := false })

/-- The result and flags of DEC on a byte (R381): C is kept. -/
def dec8 (v : Byte) (fl : FlagSet) : Byte × FlagSet :=
  let r := v - 1
  (r, { fl.sz r with h := v &&& 0x0F == 0x00, pv := v == 0x80, n := true })

/-- DAA (R382). -/
def daa8 (a : Byte) (fl : FlagSet) : Byte × FlagSet :=
  let low : Byte := if fl.h || decide (9 < a.toNat % 16) then 0x06 else 0
  let high := fl.c || decide (0x99 < a.toNat)
  let corr : Byte := low ||| (if high then 0x60 else 0)
  let r := if fl.n then a - corr else a + corr
  let h := if fl.n then fl.h && decide (a.toNat % 16 < 6) else decide (9 < a.toNat % 16)
  (r, { fl.szp r with h := h, c := high })

/-- ADD on words (R390, R393): S, Z and PV are kept. -/
def add16 (a w : Word) (fl : FlagSet) : Word × FlagSet :=
  let t := a.toNat + w.toNat
  (BitVec.ofNat 16 t,
   { fl with h := decide (0x0FFF < a.toNat % 0x1000 + w.toNat % 0x1000), n := false, c := decide (0xFFFF < t) })

/-- ADC on words (R391). -/
def adc16 (a w : Word) (c : Bool) : Word × FlagSet :=
  let t := a.toNat + w.toNat + bitNat c
  let r : Word := BitVec.ofNat 16 t
  (r, { s := r.getLsbD 15, z := r == 0, h := decide (0x0FFF < a.toNat % 0x1000 + w.toNat % 0x1000 + bitNat c),
        pv := ((a ^^^ r) &&& (w ^^^ r)).getLsbD 15, n := false, c := decide (0xFFFF < t) })

/-- SBC on words (R392). -/
def sbc16 (a w : Word) (c : Bool) : Word × FlagSet :=
  let t : Int := (a.toNat : Int) - w.toNat - bitNat c
  let r : Word := BitVec.ofInt 16 t
  (r, { s := r.getLsbD 15, z := r == 0,
        h := decide (((a.toNat % 0x1000 : Nat) : Int) - (w.toNat % 0x1000 : Nat) - bitNat c < 0),
        pv := ((a ^^^ w) &&& (a ^^^ r)).getLsbD 15, n := true, c := decide (t < 0) })

/-- The flags of RLCA, RLA, RRCA and RRA (R400 to R403): S, Z and PV are kept. -/
def FlagSet.rotatedA (fl : FlagSet) (c : Bool) : FlagSet := { fl with h := false, n := false, c := c }

/-- The flags of the CB rotates and shifts (R404). -/
def FlagSet.shifted (fl : FlagSet) (r : Shifted) : FlagSet := { fl.szp r.1 with h := false, n := false, c := r.2 }

/-- The flags of BIT (R414): C is kept. -/
def FlagSet.bitTest (fl : FlagSet) (v : Byte) (b : Fin 8) : FlagSet :=
  { fl with z := !bit v b.val, pv := !bit v b.val, s := decide (b.val = 7) && bit v 7, h := true, n := false }

end Sys2Proof.Machine
end

