-- ==== Sys2Proof/WellFormed.lean ====
section
/-! DEFINITION. Which instructions have an encoding: the addressing-mode sets of CPU-A (the *Encoding* lines of R151 to
R222), the opcode bytes of the no-ops and unknown opcodes of CPU-A (R120, R121), and the unassigned second or
fourth bytes of CPU-B (R130, R132). CPU-B's other operand codes are well formed by their types. -/

namespace Sys2Proof

/-- The modes of the set "alu8" (R201), less `imm`. -/
def AddrMode.inAlu8 : AddrMode → Bool
  | .zp _ | .zpx _ | .abs _ | .absx _ | .absy _ | .indx _ | .indy _ => true
  | .zpy _ => false

/-- The read-modify-write modes (R203); also the modes of LDY, less `imm` (R153). -/
def AddrMode.inRmw : AddrMode → Bool
  | .zp _ | .zpx _ | .abs _ | .absx _ => true
  | .zpy _ | .absy _ | .indx _ | .indy _ => false

/-- The modes of LDX, less `imm` (R152). -/
def AddrMode.inLdx : AddrMode → Bool
  | .zp _ | .zpy _ | .abs _ | .absy _ => true
  | .zpx _ | .absx _ | .indx _ | .indy _ => false

/-- The modes of STX (R155). -/
def AddrMode.inStx : AddrMode → Bool
  | .zp _ | .zpy _ | .abs _ => true
  | .zpx _ | .absx _ | .absy _ | .indx _ | .indy _ => false

/-- The modes of STY (R156). -/
def AddrMode.inSty : AddrMode → Bool
  | .zp _ | .zpx _ | .abs _ => true
  | .zpy _ | .absx _ | .absy _ | .indx _ | .indy _ => false

/-- The modes of CPX and CPY, less `imm`, and of BIT (R210, R211, R212). -/
def AddrMode.inZpAbs : AddrMode → Bool
  | .zp _ | .abs _ => true
  | .zpx _ | .zpy _ | .absx _ | .absy _ | .indx _ | .indy _ => false

/-- An operand is an immediate or a mode of the given set. -/
def AOperand.allowed (ok : AddrMode → Bool) : AOperand → Bool
  | .imm _ => true
  | .mem m => ok m

/-- A shift's target is the accumulator or one of the read-modify-write modes (R203). -/
def ATarget.allowed : ATarget → Bool
  | .acc => true
  | .mem m => m.inRmw

/-- The six undocumented one-byte no-ops (R120). -/
def nop1Opcodes : List Byte := [0x1A, 0x3A, 0x5A, 0x7A, 0xDA, 0xFA]

/-- The fourteen undocumented two-byte no-ops (R120). -/
def nop2Opcodes : List Byte :=
  [0x80, 0x82, 0x89, 0xC2, 0xE2, 0x04, 0x44, 0x64, 0x14, 0x34, 0x54, 0x74, 0xD4, 0xF4]

/-- The unknown opcodes of CPU-A (R121) other than 0x00 and 0x40, which have names of their own. -/
def unkOpcodes : List Byte :=
  [0x02, 0x03, 0x07, 0x0B, 0x0C, 0x0F, 0x12, 0x13, 0x17, 0x1B, 0x1C, 0x1F, 0x22, 0x23, 0x27, 0x2B, 0x2F] ++
  [0x32, 0x33, 0x37, 0x3B, 0x3C, 0x3F, 0x42, 0x43, 0x47, 0x4B, 0x4F, 0x52, 0x53, 0x57, 0x5B, 0x5C, 0x5F] ++
  [0x62, 0x63, 0x67, 0x6B, 0x6F, 0x72, 0x73, 0x77, 0x7B, 0x7C, 0x7F, 0x83, 0x87, 0x8B, 0x8F, 0x92, 0x93] ++
  [0x97, 0x9B, 0x9C, 0x9E, 0x9F, 0xA3, 0xA7, 0xAB, 0xAF, 0xB2, 0xB3, 0xB7, 0xBB, 0xBF, 0xC3, 0xC7, 0xCB] ++
  [0xCF, 0xD2, 0xD3, 0xD7, 0xDB, 0xDC, 0xDF, 0xE3, 0xE7, 0xEB, 0xEF, 0xF2, 0xF3, 0xF7, 0xFB, 0xFC, 0xFF]

/-- The second bytes that the ED map assigns (R130). -/
def edOpcodes : List Byte :=
  [0x40, 0x41, 0x42, 0x43, 0x44, 0x45, 0x46, 0x47, 0x48, 0x49, 0x4A, 0x4B, 0x4D, 0x4F] ++
  [0x50, 0x51, 0x52, 0x53, 0x56, 0x57, 0x58, 0x59, 0x5A, 0x5B, 0x5E, 0x5F] ++
  [0x60, 0x61, 0x62, 0x63, 0x67, 0x68, 0x69, 0x6A, 0x6B, 0x6F] ++
  [0x72, 0x73, 0x78, 0x79, 0x7A, 0x7B] ++
  [0xA0, 0xA1, 0xA2, 0xA3, 0xA8, 0xA9, 0xAA, 0xAB, 0xB0, 0xB1, 0xB2, 0xB3, 0xB8, 0xB9, 0xBA, 0xBB]

/-- The second bytes with which a DD or FD prefix forms an instruction (R131), 0xCB among them (R132). -/
def xyOpcodes : List Byte :=
  [0x09, 0x19, 0x29, 0x39, 0x21, 0x22, 0x23, 0x2A, 0x2B, 0x34, 0x35, 0x36] ++
  [0x46, 0x4E, 0x56, 0x5E, 0x66, 0x6E, 0x7E, 0x70, 0x71, 0x72, 0x73, 0x74, 0x75, 0x77] ++
  [0x86, 0x8E, 0x96, 0x9E, 0xA6, 0xAE, 0xB6, 0xBE, 0xE1, 0xE3, 0xE5, 0xE9, 0xF9, 0xCB]

/-- A fourth byte that the XYCB map assigns: `oo yyy 110`, less 0x36 (R132). -/
def xycbAssigned (x : Byte) : Bool := x &&& 7 == 6 && x != 0x36

/-- The instruction has an encoding. -/
def WellFormed : Instr → Bool
  | .aLda m | .aAdc m | .aSbc m | .aAnd m | .aOra m | .aEor m | .aCmp m => m.allowed AddrMode.inAlu8
  | .aLdx m => m.allowed AddrMode.inLdx
  | .aLdy m => m.allowed AddrMode.inRmw
  | .aSta m => m.inAlu8
  | .aStx m => m.inStx
  | .aSty m => m.inSty
  | .aCpx m | .aCpy m => m.allowed AddrMode.inZpAbs
  | .aBit m => m.inZpAbs
  | .aInc m | .aDec m => m.inRmw
  | .aAsl t | .aLsr t | .aRol t | .aRor t => t.allowed
  | .aTax | .aTay | .aTxa | .aTya | .aTsx | .aTxs | .aPha | .aPhp | .aPla | .aPlp => true
  | .aInx | .aIny | .aDex | .aDey => true
  | .aBpl _ | .aBmi _ | .aBvc _ | .aBvs _ | .aBcc _ | .aBcs _ | .aBne _ | .aBeq _ => true
  | .aJmp _ | .aJmpInd _ | .aJsr _ | .aRts => true
  | .aClc | .aSec | .aCli | .aSei | .aClv | .aCld | .aSed | .aNop | .aBrk | .aRti => true
  | .aNop1 op => nop1Opcodes.contains op
  | .aNop2 op _ => nop2Opcodes.contains op
  | .aUnk op => unkOpcodes.contains op
  | .bLdRR _ _ | .bLdRN _ _ | .bLdRHl _ | .bLdRXy _ _ _ | .bLdHlR _ | .bLdXyR _ _ _ | .bLdHlN _ | .bLdXyN _ _ _ => true
  | .bLdABc | .bLdADe | .bLdAMem _ | .bLdBcA | .bLdDeA | .bLdMemA _ | .bLdAI | .bLdARefresh | .bLdIA | .bLdRefreshA => true
  | .bLdDdNn _ _ | .bLdXyNn _ _ | .bLdHlMem _ | .bLdDdMem _ _ | .bLdXyMem _ _ | .bLdMemHl _ | .bLdMemDd _ _ => true
  | .bLdMemXy _ _ | .bLdSpHl | .bLdSpXy _ | .bPush _ | .bPushXy _ | .bPop _ | .bPopXy _ => true
  | .bExDeHl | .bExAf | .bExx | .bExSpHl | .bExSpXy _ => true
  | .bLdi | .bLdir | .bLdd | .bLddr | .bCpi | .bCpir | .bCpd | .bCpdr => true
  | .bAdd _ | .bAdc _ | .bSub _ | .bSbc _ | .bAnd _ | .bXor _ | .bOr _ | .bCp _ | .bInc _ | .bDec _ => true
  | .bDaa | .bCpl | .bNeg | .bCcf | .bScf => true
  | .bAddHl _ | .bAdcHl _ | .bSbcHl _ | .bAddXy _ _ | .bIncSs _ | .bIncXy _ | .bDecSs _ | .bDecXy _ => true
  | .bRlca | .bRla | .bRrca | .bRra => true
  | .bRlc _ | .bRrc _ | .bRl _ | .bRr _ | .bSla _ | .bSra _ | .bSrl _ | .bRld | .bRrd => true
  | .bBit _ _ | .bSet _ _ | .bRes _ _ => true
  | .bJp _ | .bJpCc _ _ | .bJr _ | .bJrCc _ _ | .bJpHl | .bJpXy _ | .bDjnz _ => true
  | .bCall _ | .bCallCc _ _ | .bRet | .bRetCc _ | .bReti | .bRetn | .bRst _ => true
  | .bInAN _ | .bInRC _ | .bIni | .bInir | .bInd | .bIndr => true
  | .bOutNA _ | .bOutCR _ | .bOuti | .bOtir | .bOutd | .bOtdr => true
  | .bNop | .bHalt | .bDi | .bEi | .bIm _ | .bUnkCb _ | .bUnkXy _ => true
  | .bUnkEd x => !edOpcodes.contains x
  | .bUnkXycb _ _ x => !xycbAssigned x

end Sys2Proof
end

