-- ==== Sys2Proof/Decode.lean ====
section
/-! DEFINITION. The decoders of both CPUs (30_encoding.md R100 to R133) and, after them, the encoder. Decoding is total
(R102): every byte sequence is an instruction of the maps or an unknown opcode with a name and a length of its
own, so nothing is rejected. -/

namespace Sys2Proof

/-! ### CPU-A: the map of R119 -/

/-- A cell of CPU-A's opcode map: the instruction, given the two bytes after the opcode. -/
abbrev ACell := Byte → Byte → Instr

/-- Modes `imp` and `acc`: no operand byte (R106, R107). -/
def Enc.one (i : Instr) : ACell := fun _ _ => i

/-- Mode `imm` (R108). -/
def Enc.imm (f : AOperand → Instr) : ACell := fun b1 _ => f (.imm b1)

/-- Mode `zp` (R109). -/
def Enc.zp (f : AddrMode → Instr) : ACell := fun b1 _ => f (.zp b1)

/-- Mode `zpx` (R110). -/
def Enc.zpx (f : AddrMode → Instr) : ACell := fun b1 _ => f (.zpx b1)

/-- Mode `zpy` (R111). -/
def Enc.zpy (f : AddrMode → Instr) : ACell := fun b1 _ => f (.zpy b1)

/-- Mode `abs` (R112). -/
def Enc.abs (f : AddrMode → Instr) : ACell := fun b1 b2 => f (.abs (word b2 b1))

/-- Mode `absx` (R115). -/
def Enc.absx (f : AddrMode → Instr) : ACell := fun b1 b2 => f (.absx (word b2 b1))

/-- Mode `absy` (R116). -/
def Enc.absy (f : AddrMode → Instr) : ACell := fun b1 b2 => f (.absy (word b2 b1))

/-- Mode `indx` (R113). -/
def Enc.indx (f : AddrMode → Instr) : ACell := fun b1 _ => f (.indx b1)

/-- Mode `indy` (R114). -/
def Enc.indy (f : AddrMode → Instr) : ACell := fun b1 _ => f (.indy b1)

/-- Mode `rel` (R117). -/
def Enc.rel (f : Byte → Instr) : ACell := fun b1 _ => f b1

/-- A 16-bit operand that is a jump target or the pointer of mode `ind` (R112, R118). -/
def Enc.wrd (f : Word → Instr) : ACell := fun b1 b2 => f (word b2 b1)

/-- An instruction that reads an operand, in a mode with an effective address. -/
def Enc.opd (f : AOperand → Instr) : AddrMode → Instr := fun m => f (.mem m)

/-- A shift or rotate, in a mode with an effective address. -/
def Enc.shf (f : ATarget → Instr) : AddrMode → Instr := fun m => f (.mem m)

/-- An unknown opcode (R121). -/
def Enc.unk (op : Byte) : ACell := fun _ _ => .aUnk op

/-- An undocumented one-byte no-op (R120). -/
def Enc.nop1 (op : Byte) : ACell := fun _ _ => .aNop1 op

/-- An undocumented two-byte no-op (R120). -/
def Enc.nop2 (op : Byte) : ACell := fun b1 _ => .aNop2 op b1

/-- Opcodes 0x00 to 0x0F of R119. -/
def Enc.mapA0 : List ACell :=
  [Enc.one .aBrk, Enc.indx (Enc.opd .aOra), Enc.unk 0x02, Enc.unk 0x03, Enc.nop2 0x04, Enc.zp (Enc.opd .aOra),
   Enc.zp (Enc.shf .aAsl), Enc.unk 0x07, Enc.one .aPhp, Enc.imm .aOra, Enc.one (.aAsl .acc),
   Enc.unk 0x0B, Enc.unk 0x0C, Enc.abs (Enc.opd .aOra), Enc.abs (Enc.shf .aAsl), Enc.unk 0x0F]

/-- Opcodes 0x10 to 0x1F of R119. -/
def Enc.mapA1 : List ACell :=
  [Enc.rel .aBpl, Enc.indy (Enc.opd .aOra), Enc.unk 0x12, Enc.unk 0x13, Enc.nop2 0x14, Enc.zpx (Enc.opd .aOra),
   Enc.zpx (Enc.shf .aAsl), Enc.unk 0x17, Enc.one .aClc, Enc.absy (Enc.opd .aOra), Enc.nop1 0x1A,
   Enc.unk 0x1B, Enc.unk 0x1C, Enc.absx (Enc.opd .aOra), Enc.absx (Enc.shf .aAsl), Enc.unk 0x1F]

/-- Opcodes 0x20 to 0x2F of R119. -/
def Enc.mapA2 : List ACell :=
  [Enc.wrd .aJsr, Enc.indx (Enc.opd .aAnd), Enc.unk 0x22, Enc.unk 0x23, Enc.zp .aBit, Enc.zp (Enc.opd .aAnd),
   Enc.zp (Enc.shf .aRol), Enc.unk 0x27, Enc.one .aPlp, Enc.imm .aAnd, Enc.one (.aRol .acc),
   Enc.unk 0x2B, Enc.abs .aBit, Enc.abs (Enc.opd .aAnd), Enc.abs (Enc.shf .aRol), Enc.unk 0x2F]

/-- Opcodes 0x30 to 0x3F of R119. -/
def Enc.mapA3 : List ACell :=
  [Enc.rel .aBmi, Enc.indy (Enc.opd .aAnd), Enc.unk 0x32, Enc.unk 0x33, Enc.nop2 0x34, Enc.zpx (Enc.opd .aAnd),
   Enc.zpx (Enc.shf .aRol), Enc.unk 0x37, Enc.one .aSec, Enc.absy (Enc.opd .aAnd), Enc.nop1 0x3A,
   Enc.unk 0x3B, Enc.unk 0x3C, Enc.absx (Enc.opd .aAnd), Enc.absx (Enc.shf .aRol), Enc.unk 0x3F]

/-- Opcodes 0x40 to 0x4F of R119. -/
def Enc.mapA4 : List ACell :=
  [Enc.one .aRti, Enc.indx (Enc.opd .aEor), Enc.unk 0x42, Enc.unk 0x43, Enc.nop2 0x44, Enc.zp (Enc.opd .aEor),
   Enc.zp (Enc.shf .aLsr), Enc.unk 0x47, Enc.one .aPha, Enc.imm .aEor, Enc.one (.aLsr .acc),
   Enc.unk 0x4B, Enc.wrd .aJmp, Enc.abs (Enc.opd .aEor), Enc.abs (Enc.shf .aLsr), Enc.unk 0x4F]

/-- Opcodes 0x50 to 0x5F of R119. -/
def Enc.mapA5 : List ACell :=
  [Enc.rel .aBvc, Enc.indy (Enc.opd .aEor), Enc.unk 0x52, Enc.unk 0x53, Enc.nop2 0x54, Enc.zpx (Enc.opd .aEor),
   Enc.zpx (Enc.shf .aLsr), Enc.unk 0x57, Enc.one .aCli, Enc.absy (Enc.opd .aEor), Enc.nop1 0x5A,
   Enc.unk 0x5B, Enc.unk 0x5C, Enc.absx (Enc.opd .aEor), Enc.absx (Enc.shf .aLsr), Enc.unk 0x5F]

/-- Opcodes 0x60 to 0x6F of R119. -/
def Enc.mapA6 : List ACell :=
  [Enc.one .aRts, Enc.indx (Enc.opd .aAdc), Enc.unk 0x62, Enc.unk 0x63, Enc.nop2 0x64, Enc.zp (Enc.opd .aAdc),
   Enc.zp (Enc.shf .aRor), Enc.unk 0x67, Enc.one .aPla, Enc.imm .aAdc, Enc.one (.aRor .acc),
   Enc.unk 0x6B, Enc.wrd .aJmpInd, Enc.abs (Enc.opd .aAdc), Enc.abs (Enc.shf .aRor), Enc.unk 0x6F]

/-- Opcodes 0x70 to 0x7F of R119. -/
def Enc.mapA7 : List ACell :=
  [Enc.rel .aBvs, Enc.indy (Enc.opd .aAdc), Enc.unk 0x72, Enc.unk 0x73, Enc.nop2 0x74, Enc.zpx (Enc.opd .aAdc),
   Enc.zpx (Enc.shf .aRor), Enc.unk 0x77, Enc.one .aSei, Enc.absy (Enc.opd .aAdc), Enc.nop1 0x7A,
   Enc.unk 0x7B, Enc.unk 0x7C, Enc.absx (Enc.opd .aAdc), Enc.absx (Enc.shf .aRor), Enc.unk 0x7F]

/-- Opcodes 0x80 to 0x8F of R119. -/
def Enc.mapA8 : List ACell :=
  [Enc.nop2 0x80, Enc.indx .aSta, Enc.nop2 0x82, Enc.unk 0x83, Enc.zp .aSty, Enc.zp .aSta,
   Enc.zp .aStx, Enc.unk 0x87, Enc.one .aDey, Enc.nop2 0x89, Enc.one .aTxa,
   Enc.unk 0x8B, Enc.abs .aSty, Enc.abs .aSta, Enc.abs .aStx, Enc.unk 0x8F]

/-- Opcodes 0x90 to 0x9F of R119. -/
def Enc.mapA9 : List ACell :=
  [Enc.rel .aBcc, Enc.indy .aSta, Enc.unk 0x92, Enc.unk 0x93, Enc.zpx .aSty, Enc.zpx .aSta,
   Enc.zpy .aStx, Enc.unk 0x97, Enc.one .aTya, Enc.absy .aSta, Enc.one .aTxs,
   Enc.unk 0x9B, Enc.unk 0x9C, Enc.absx .aSta, Enc.unk 0x9E, Enc.unk 0x9F]

/-- Opcodes 0xA0 to 0xAF of R119. -/
def Enc.mapAA : List ACell :=
  [Enc.imm .aLdy, Enc.indx (Enc.opd .aLda), Enc.imm .aLdx, Enc.unk 0xA3, Enc.zp (Enc.opd .aLdy), Enc.zp (Enc.opd .aLda),
   Enc.zp (Enc.opd .aLdx), Enc.unk 0xA7, Enc.one .aTay, Enc.imm .aLda, Enc.one .aTax,
   Enc.unk 0xAB, Enc.abs (Enc.opd .aLdy), Enc.abs (Enc.opd .aLda), Enc.abs (Enc.opd .aLdx), Enc.unk 0xAF]

/-- Opcodes 0xB0 to 0xBF of R119. -/
def Enc.mapAB : List ACell :=
  [Enc.rel .aBcs, Enc.indy (Enc.opd .aLda), Enc.unk 0xB2, Enc.unk 0xB3, Enc.zpx (Enc.opd .aLdy), Enc.zpx (Enc.opd .aLda),
   Enc.zpy (Enc.opd .aLdx), Enc.unk 0xB7, Enc.one .aClv, Enc.absy (Enc.opd .aLda), Enc.one .aTsx,
   Enc.unk 0xBB, Enc.absx (Enc.opd .aLdy), Enc.absx (Enc.opd .aLda), Enc.absy (Enc.opd .aLdx), Enc.unk 0xBF]

/-- Opcodes 0xC0 to 0xCF of R119. -/
def Enc.mapAC : List ACell :=
  [Enc.imm .aCpy, Enc.indx (Enc.opd .aCmp), Enc.nop2 0xC2, Enc.unk 0xC3, Enc.zp (Enc.opd .aCpy), Enc.zp (Enc.opd .aCmp),
   Enc.zp .aDec, Enc.unk 0xC7, Enc.one .aIny, Enc.imm .aCmp, Enc.one .aDex,
   Enc.unk 0xCB, Enc.abs (Enc.opd .aCpy), Enc.abs (Enc.opd .aCmp), Enc.abs .aDec, Enc.unk 0xCF]

/-- Opcodes 0xD0 to 0xDF of R119. -/
def Enc.mapAD : List ACell :=
  [Enc.rel .aBne, Enc.indy (Enc.opd .aCmp), Enc.unk 0xD2, Enc.unk 0xD3, Enc.nop2 0xD4, Enc.zpx (Enc.opd .aCmp),
   Enc.zpx .aDec, Enc.unk 0xD7, Enc.one .aCld, Enc.absy (Enc.opd .aCmp), Enc.nop1 0xDA,
   Enc.unk 0xDB, Enc.unk 0xDC, Enc.absx (Enc.opd .aCmp), Enc.absx .aDec, Enc.unk 0xDF]

/-- Opcodes 0xE0 to 0xEF of R119. -/
def Enc.mapAE : List ACell :=
  [Enc.imm .aCpx, Enc.indx (Enc.opd .aSbc), Enc.nop2 0xE2, Enc.unk 0xE3, Enc.zp (Enc.opd .aCpx), Enc.zp (Enc.opd .aSbc),
   Enc.zp .aInc, Enc.unk 0xE7, Enc.one .aInx, Enc.imm .aSbc, Enc.one .aNop,
   Enc.unk 0xEB, Enc.abs (Enc.opd .aCpx), Enc.abs (Enc.opd .aSbc), Enc.abs .aInc, Enc.unk 0xEF]

/-- Opcodes 0xF0 to 0xFF of R119. -/
def Enc.mapAF : List ACell :=
  [Enc.rel .aBeq, Enc.indy (Enc.opd .aSbc), Enc.unk 0xF2, Enc.unk 0xF3, Enc.nop2 0xF4, Enc.zpx (Enc.opd .aSbc),
   Enc.zpx .aInc, Enc.unk 0xF7, Enc.one .aSed, Enc.absy (Enc.opd .aSbc), Enc.nop1 0xFA,
   Enc.unk 0xFB, Enc.unk 0xFC, Enc.absx (Enc.opd .aSbc), Enc.absx .aInc, Enc.unk 0xFF]

/-- The whole map of R119, by high nibble and then low nibble. -/
def mapA : List (List ACell) :=
  [Enc.mapA0, Enc.mapA1, Enc.mapA2, Enc.mapA3, Enc.mapA4, Enc.mapA5, Enc.mapA6, Enc.mapA7] ++
  [Enc.mapA8, Enc.mapA9, Enc.mapAA, Enc.mapAB, Enc.mapAC, Enc.mapAD, Enc.mapAE, Enc.mapAF]

/-- CPU-A's decoder: the opcode byte alone selects the cell (R103). -/
def decodeA (b0 b1 b2 : Byte) : Instr :=
  ((mapA.getD (field b0 4 4) []).getD (field b0 0 4) (Enc.unk b0)) b1 b2

/-! ### CPU-B: field codes (R126) -/

/-- Register code `r` / `s`; code 6 selects no register. -/
def Reg8.ofCode : Nat → Option Reg8
  | 0 => some .b
  | 1 => some .c
  | 2 => some .d
  | 3 => some .e
  | 4 => some .h
  | 5 => some .l
  | 7 => some .a
  | _ => none

/-- Pair code `dd` / `ss`. -/
def Pair.ofCode : Nat → Pair
  | 0 => .bc
  | 1 => .de
  | 2 => .hl
  | _ => .sp

/-- Pair code `qq`. -/
def StackPair.ofCode : Nat → StackPair
  | 0 => .bc
  | 1 => .de
  | 2 => .hl
  | _ => .af

/-- Pair code `pp` / `rr`. -/
def IndexPair.ofCode : Nat → IndexPair
  | 0 => .bc
  | 1 => .de
  | 2 => .xy
  | _ => .sp

/-- Condition code `c`, 3 bits. -/
def Cond.ofCode : Nat → Cond
  | 0 => .nz
  | 1 => .z
  | 2 => .nc
  | 3 => .c
  | 4 => .po
  | 5 => .pe
  | 6 => .p
  | _ => .m

/-- Condition code of JR, 2 bits. -/
def JrCond.ofCode : Nat → JrCond
  | 0 => .nz
  | 1 => .z
  | 2 => .nc
  | _ => .c

/-- The 8-bit location with code `s`, 6 being `(HL)` (R404). -/
def Loc8.ofCode (s : Nat) : Loc8 :=
  match Reg8.ofCode s with
  | some r => .reg r
  | none => .hl

/-- The ALU operand with code `s`, 6 being `(HL)` (R371). -/
def Src8.ofCode (s : Nat) : Src8 :=
  match Reg8.ofCode s with
  | some r => .reg r
  | none => .hl

/-- A number of 3 bits as `Fin 8`: bit numbers, restart codes. -/
def code3 (n : Nat) : Fin 8 := Fin.ofNat 8 n

/-- Accumulator operation `aaa` (R371). -/
def aluOf (op : Nat) (m : Src8) : Instr :=
  match op with
  | 0 => .bAdd m
  | 1 => .bAdc m
  | 2 => .bSub m
  | 3 => .bSbc m
  | 4 => .bAnd m
  | 5 => .bXor m
  | 6 => .bOr m
  | _ => .bCp m

/-- Rotate or shift `yyy` other than 6 (R129). -/
def rotOf (op : Nat) (v : Loc8) : Instr :=
  match op with
  | 0 => .bRlc v
  | 1 => .bRrc v
  | 2 => .bRl v
  | 3 => .bRr v
  | 4 => .bSla v
  | 5 => .bSra v
  | _ => .bSrl v

/-! ### CPU-B: the prefix maps -/

/-- The CB map (R129). -/
def decodeCB (b1 : Byte) : Instr :=
  let y := field b1 3 3
  let s := field b1 0 3
  match field b1 6 2 with
  | 0 => if y = 6 then .bUnkCb (code3 s) else rotOf y (Loc8.ofCode s)
  | 1 => .bBit (code3 y) (Loc8.ofCode s)
  | 2 => .bRes (code3 y) (Loc8.ofCode s)
  | _ => .bSet (code3 y) (Loc8.ofCode s)

/-- The XYCB map (R132). -/
def decodeXYCB (i : Index) (d b3 : Byte) : Instr :=
  let y := field b3 3 3
  if xycbAssigned b3 then
    match field b3 6 2 with
    | 0 => rotOf y (.idx i d)
    | 1 => .bBit (code3 y) (.idx i d)
    | 2 => .bRes (code3 y) (.idx i d)
    | _ => .bSet (code3 y) (.idx i d)
  else .bUnkXycb i d b3

/-- The block instructions of the ED map, rows 0xAx and 0xBx (R130). -/
def decodeEDBlock (b1 : Byte) : Instr :=
  match b1.toNat with
  | 0xA0 => .bLdi
  | 0xA1 => .bCpi
  | 0xA2 => .bIni
  | 0xA3 => .bOuti
  | 0xA8 => .bLdd
  | 0xA9 => .bCpd
  | 0xAA => .bInd
  | 0xAB => .bOutd
  | 0xB0 => .bLdir
  | 0xB1 => .bCpir
  | 0xB2 => .bInir
  | 0xB3 => .bOtir
  | 0xB8 => .bLddr
  | 0xB9 => .bCpdr
  | 0xBA => .bIndr
  | 0xBB => .bOtdr
  | _ => .bUnkEd b1

/-- The ED map, rows 0x4x to 0x7x (R130). -/
def decodeEDMain (b1 l h : Byte) : Instr :=
  let y := field b1 3 3
  match field b1 0 3 with
  | 0 => match Reg8.ofCode y with
    | some r => .bInRC r
    | none => .bUnkEd b1
  | 1 => match Reg8.ofCode y with
    | some r => .bOutCR r
    | none => .bUnkEd b1
  | 2 => if field b1 3 1 = 0 then .bSbcHl (Pair.ofCode (field b1 4 2)) else .bAdcHl (Pair.ofCode (field b1 4 2))
  | 3 => if field b1 3 1 = 0 then .bLdMemDd (word h l) (Pair.ofCode (field b1 4 2))
         else .bLdDdMem (Pair.ofCode (field b1 4 2)) (word h l)
  | _ => match b1.toNat with
    | 0x44 => .bNeg
    | 0x45 => .bRetn
    | 0x46 => .bIm .im0
    | 0x47 => .bLdIA
    | 0x4D => .bReti
    | 0x4F => .bLdRefreshA
    | 0x56 => .bIm .im1
    | 0x57 => .bLdAI
    | 0x5E => .bIm .im2
    | 0x5F => .bLdARefresh
    | 0x67 => .bRrd
    | 0x6F => .bRld
    | _ => .bUnkEd b1

/-- The ED map (R130). -/
def decodeED (b1 l h : Byte) : Instr :=
  match field b1 6 2 with
  | 1 => decodeEDMain b1 l h
  | _ => decodeEDBlock b1

/-- The XY map (R131) and, behind 0xCB, the XYCB map; a byte in neither leaves the prefix alone (R133). -/
def decodeXY (i : Index) (b1 b2 b3 : Byte) : Instr :=
  if xyOpcodes.contains b1 then
    match b1.toNat with
    | 0xCB => decodeXYCB i b2 b3
    | 0x09 => .bAddXy i .bc
    | 0x19 => .bAddXy i .de
    | 0x29 => .bAddXy i .xy
    | 0x39 => .bAddXy i .sp
    | 0x21 => .bLdXyNn i (word b3 b2)
    | 0x22 => .bLdMemXy (word b3 b2) i
    | 0x23 => .bIncXy i
    | 0x2A => .bLdXyMem i (word b3 b2)
    | 0x2B => .bDecXy i
    | 0x34 => .bInc (.idx i b2)
    | 0x35 => .bDec (.idx i b2)
    | 0x36 => .bLdXyN i b2 b3
    | 0xE1 => .bPopXy i
    | 0xE3 => .bExSpXy i
    | 0xE5 => .bPushXy i
    | 0xE9 => .bJpXy i
    | 0xF9 => .bLdSpXy i
    | _ =>
      if field b1 6 2 = 2 then aluOf (field b1 3 3) (.idx i b2)
      else match Reg8.ofCode (field b1 3 3), Reg8.ofCode (field b1 0 3) with
        | some r, _ => .bLdRXy r i b2
        | none, some s => .bLdXyR i b2 s
        | none, none => .bUnkXy i
  else .bUnkXy i

/-! ### CPU-B: the main map (R128) -/

/-- Bytes `00 yyy zzz`. -/
def decodeMain0 (y z : Nat) (b1 b2 : Byte) : Instr :=
  match z with
  | 0 => match y with
    | 0 => .bNop
    | 1 => .bExAf
    | 2 => .bDjnz b1
    | 3 => .bJr b1
    | _ => .bJrCc (JrCond.ofCode (y % 4)) b1
  | 1 => if y % 2 = 0 then .bLdDdNn (Pair.ofCode (y / 2)) (word b2 b1) else .bAddHl (Pair.ofCode (y / 2))
  | 2 => match y with
    | 0 => .bLdBcA
    | 1 => .bLdABc
    | 2 => .bLdDeA
    | 3 => .bLdADe
    | 4 => .bLdMemHl (word b2 b1)
    | 5 => .bLdHlMem (word b2 b1)
    | 6 => .bLdMemA (word b2 b1)
    | _ => .bLdAMem (word b2 b1)
  | 3 => if y % 2 = 0 then .bIncSs (Pair.ofCode (y / 2)) else .bDecSs (Pair.ofCode (y / 2))
  | 4 => .bInc (Loc8.ofCode y)
  | 5 => .bDec (Loc8.ofCode y)
  | 6 => match Reg8.ofCode y with
    | some r => .bLdRN r b1
    | none => .bLdHlN b1
  | _ => match y with
    | 0 => .bRlca
    | 1 => .bRrca
    | 2 => .bRla
    | 3 => .bRra
    | 4 => .bDaa
    | 5 => .bCpl
    | 6 => .bScf
    | _ => .bCcf

/-- Bytes `01 yyy zzz`: the 8-bit loads and HALT. -/
def decodeMain1 (y z : Nat) : Instr :=
  match Reg8.ofCode y, Reg8.ofCode z with
  | some r, some s => .bLdRR r s
  | some r, none => .bLdRHl r
  | none, some s => .bLdHlR s
  | none, none => .bHalt

/-- Bytes `11 yyy zzz`, the four prefixes among them (R124). -/
def decodeMain3 (y z : Nat) (b1 b2 b3 : Byte) : Instr :=
  match z with
  | 0 => .bRetCc (Cond.ofCode y)
  | 1 => match y with
    | 1 => .bRet
    | 3 => .bExx
    | 5 => .bJpHl
    | 7 => .bLdSpHl
    | _ => .bPop (StackPair.ofCode (y / 2))
  | 2 => .bJpCc (Cond.ofCode y) (word b2 b1)
  | 3 => match y with
    | 0 => .bJp (word b2 b1)
    | 1 => decodeCB b1
    | 2 => .bOutNA b1
    | 3 => .bInAN b1
    | 4 => .bExSpHl
    | 5 => .bExDeHl
    | 6 => .bDi
    | _ => .bEi
  | 4 => .bCallCc (Cond.ofCode y) (word b2 b1)
  | 5 => match y with
    | 1 => .bCall (word b2 b1)
    | 3 => decodeXY .ix b1 b2 b3
    | 5 => decodeED b1 b2 b3
    | 7 => decodeXY .iy b1 b2 b3
    | _ => .bPush (StackPair.ofCode (y / 2))
  | 6 => aluOf y (.imm b1)
  | _ => .bRst (code3 y)

/-- CPU-B's decoder (R124). -/
def decodeB (b0 b1 b2 b3 : Byte) : Instr :=
  let y := field b0 3 3
  let z := field b0 0 3
  match field b0 6 2 with
  | 0 => decodeMain0 y z b1 b2
  | 1 => decodeMain1 y z
  | 2 => aluOf y (Src8.ofCode z)
  | _ => decodeMain3 y z b1 b2 b3

/-- The decoder of the session's CPU, on the four bytes from the program counter up. -/
def decode (cpu : CpuKind) (b0 b1 b2 b3 : Byte) : Instr :=
  match cpu with
  | .a => decodeA b0 b1 b2
  | .b => decodeB b0 b1 b2 b3

/-! ### The encoder -/

/-- Register code of a register (R126). -/
def Reg8.code : Reg8 → Byte
  | .b => 0
  | .c => 1
  | .d => 2
  | .e => 3
  | .h => 4
  | .l => 5
  | .a => 7

/-- Pair code of `dd` / `ss`. -/
def Pair.code : Pair → Byte
  | .bc => 0
  | .de => 1
  | .hl => 2
  | .sp => 3

/-- Pair code of `qq`. -/
def StackPair.code : StackPair → Byte
  | .bc => 0
  | .de => 1
  | .hl => 2
  | .af => 3

/-- Pair code of `pp` / `rr`. -/
def IndexPair.code : IndexPair → Byte
  | .bc => 0
  | .de => 1
  | .xy => 2
  | .sp => 3

/-- Condition code, 3 bits. -/
def Cond.code : Cond → Byte
  | .nz => 0
  | .z => 1
  | .nc => 2
  | .c => 3
  | .po => 4
  | .pe => 5
  | .p => 6
  | .m => 7

/-- Condition code of JR, 2 bits. -/
def JrCond.code : JrCond → Byte
  | .nz => 0
  | .z => 1
  | .nc => 2
  | .c => 3

/-- The prefix byte of an index register (R126, field `i`). -/
def Index.opcode : Index → Byte
  | .ix => 0xDD
  | .iy => 0xFD

/-- A number of 3 bits as a byte. -/
def byte3 (n : Fin 8) : Byte := BitVec.ofNat 8 n.val

/-- A mode's opcode and operand bytes, from the opcode bytes that the instruction's *Encoding* line gives its modes;
a mode it gives none has no encoding. -/
def encodeMode (zp zpx zpy abs absx absy indx indy : Option Byte) : AddrMode → List Byte
  | .zp z => (zp.map fun o => [o, z]).getD []
  | .zpx z => (zpx.map fun o => [o, z]).getD []
  | .zpy z => (zpy.map fun o => [o, z]).getD []
  | .abs nn => (abs.map fun o => [o, loByte nn, hiByte nn]).getD []
  | .absx nn => (absx.map fun o => [o, loByte nn, hiByte nn]).getD []
  | .absy nn => (absy.map fun o => [o, loByte nn, hiByte nn]).getD []
  | .indx z => (indx.map fun o => [o, z]).getD []
  | .indy z => (indy.map fun o => [o, z]).getD []

/-- The opcode `imm`, or those of the modes. -/
def encodeOperand (imm : Byte) (modes : AddrMode → List Byte) : AOperand → List Byte
  | .imm n => [imm, n]
  | .mem m => modes m

/-- The set "alu8" (R201), opcodes in the order of the *Encoding* lines: imm zp zpx abs absx absy indx indy. -/
def encodeAlu8 (imm zp zpx abs absx absy indx indy : Byte) : AOperand → List Byte :=
  encodeOperand imm (encodeMode (some zp) (some zpx) none (some abs) (some absx) (some absy) (some indx) (some indy))

/-- The read-modify-write modes (R203): zp zpx abs absx. -/
def encodeRmw (zp zpx abs absx : Byte) : AddrMode → List Byte :=
  encodeMode (some zp) (some zpx) none (some abs) (some absx) none none none

/-- The modes zp and abs. -/
def encodeZpAbs (zp abs : Byte) : AddrMode → List Byte :=
  encodeMode (some zp) none none (some abs) none none none none

/-- The shifts and rotates: acc zp zpx abs absx. -/
def encodeShift (acc zp zpx abs absx : Byte) : ATarget → List Byte
  | .acc => [acc]
  | .mem m => encodeRmw zp zpx abs absx m

/-- An opcode and a 16-bit operand, low byte first (R79). -/
def encodeWord (op : Byte) (nn : Word) : List Byte := [op, loByte nn, hiByte nn]

/-- The forms of an accumulator operation with base opcode `10 aaa 000` (R371). -/
def encodeAlu (base : Byte) : Src8 → List Byte
  | .reg r => [base ||| r.code]
  | .imm n => [base ||| 0x46, n]
  | .hl => [base ||| 6]
  | .idx i d => [i.opcode, base ||| 6, d]

/-- The forms of INC and DEC with base opcode `00 000 10x` (R380, R381). -/
def encodeIncDec (base : Byte) : Loc8 → List Byte
  | .reg r => [base ||| (r.code <<< 3)]
  | .hl => [base ||| 0x30]
  | .idx i d => [i.opcode, base ||| 0x30, d]

/-- The forms of the CB family with opcode `oo yyy 000` (R404). -/
def encodeCB (base : Byte) : Loc8 → List Byte
  | .reg r => [0xCB, base ||| r.code]
  | .hl => [0xCB, base ||| 6]
  | .idx i d => [i.opcode, 0xCB, d, base ||| 6]

/-- The bytes of a well-formed instruction, lowest address first; an instruction that is not well formed may have
none. -/
def encode : Instr → List Byte
  | .aLda m => encodeAlu8 0xA9 0xA5 0xB5 0xAD 0xBD 0xB9 0xA1 0xB1 m
  | .aLdx m => encodeOperand 0xA2 (encodeMode (some 0xA6) none (some 0xB6) (some 0xAE) none (some 0xBE) none none) m
  | .aLdy m => encodeOperand 0xA0 (encodeRmw 0xA4 0xB4 0xAC 0xBC) m
  | .aSta m => encodeMode (some 0x85) (some 0x95) none (some 0x8D) (some 0x9D) (some 0x99) (some 0x81) (some 0x91) m
  | .aStx m => encodeMode (some 0x86) none (some 0x96) (some 0x8E) none none none none m
  | .aSty m => encodeMode (some 0x84) (some 0x94) none (some 0x8C) none none none none m
  | .aTax => [0xAA]
  | .aTay => [0xA8]
  | .aTxa => [0x8A]
  | .aTya => [0x98]
  | .aTsx => [0xBA]
  | .aTxs => [0x9A]
  | .aPha => [0x48]
  | .aPhp => [0x08]
  | .aPla => [0x68]
  | .aPlp => [0x28]
  | .aAdc m => encodeAlu8 0x69 0x65 0x75 0x6D 0x7D 0x79 0x61 0x71 m
  | .aSbc m => encodeAlu8 0xE9 0xE5 0xF5 0xED 0xFD 0xF9 0xE1 0xF1 m
  | .aAnd m => encodeAlu8 0x29 0x25 0x35 0x2D 0x3D 0x39 0x21 0x31 m
  | .aOra m => encodeAlu8 0x09 0x05 0x15 0x0D 0x1D 0x19 0x01 0x11 m
  | .aEor m => encodeAlu8 0x49 0x45 0x55 0x4D 0x5D 0x59 0x41 0x51 m
  | .aCmp m => encodeAlu8 0xC9 0xC5 0xD5 0xCD 0xDD 0xD9 0xC1 0xD1 m
  | .aCpx m => encodeOperand 0xE0 (encodeZpAbs 0xE4 0xEC) m
  | .aCpy m => encodeOperand 0xC0 (encodeZpAbs 0xC4 0xCC) m
  | .aBit m => encodeZpAbs 0x24 0x2C m
  | .aInc m => encodeRmw 0xE6 0xF6 0xEE 0xFE m
  | .aDec m => encodeRmw 0xC6 0xD6 0xCE 0xDE m
  | .aInx => [0xE8]
  | .aIny => [0xC8]
  | .aDex => [0xCA]
  | .aDey => [0x88]
  | .aAsl t => encodeShift 0x0A 0x06 0x16 0x0E 0x1E t
  | .aLsr t => encodeShift 0x4A 0x46 0x56 0x4E 0x5E t
  | .aRol t => encodeShift 0x2A 0x26 0x36 0x2E 0x3E t
  | .aRor t => encodeShift 0x6A 0x66 0x76 0x6E 0x7E t
  | .aBpl e => [0x10, e]
  | .aBmi e => [0x30, e]
  | .aBvc e => [0x50, e]
  | .aBvs e => [0x70, e]
  | .aBcc e => [0x90, e]
  | .aBcs e => [0xB0, e]
  | .aBne e => [0xD0, e]
  | .aBeq e => [0xF0, e]
  | .aJmp nn => encodeWord 0x4C nn
  | .aJmpInd ptr => encodeWord 0x6C ptr
  | .aJsr nn => encodeWord 0x20 nn
  | .aRts => [0x60]
  | .aClc => [0x18]
  | .aSec => [0x38]
  | .aCli => [0x58]
  | .aSei => [0x78]
  | .aClv => [0xB8]
  | .aCld => [0xD8]
  | .aSed => [0xF8]
  | .aNop => [0xEA]
  | .aNop1 op => [op]
  | .aNop2 op n => [op, n]
  | .aUnk op => [op]
  | .aBrk => [0x00]
  | .aRti => [0x40]
  | .bLdRR r s => [0x40 ||| (r.code <<< 3) ||| s.code]
  | .bLdRN r n => [0x06 ||| (r.code <<< 3), n]
  | .bLdRHl r => [0x46 ||| (r.code <<< 3)]
  | .bLdRXy r i d => [i.opcode, 0x46 ||| (r.code <<< 3), d]
  | .bLdHlR s => [0x70 ||| s.code]
  | .bLdXyR i d s => [i.opcode, 0x70 ||| s.code, d]
  | .bLdHlN n => [0x36, n]
  | .bLdXyN i d n => [i.opcode, 0x36, d, n]
  | .bLdABc => [0x0A]
  | .bLdADe => [0x1A]
  | .bLdAMem nn => encodeWord 0x3A nn
  | .bLdBcA => [0x02]
  | .bLdDeA => [0x12]
  | .bLdMemA nn => encodeWord 0x32 nn
  | .bLdAI => [0xED, 0x57]
  | .bLdARefresh => [0xED, 0x5F]
  | .bLdIA => [0xED, 0x47]
  | .bLdRefreshA => [0xED, 0x4F]
  | .bLdDdNn p nn => encodeWord (0x01 ||| (p.code <<< 4)) nn
  | .bLdXyNn i nn => i.opcode :: encodeWord 0x21 nn
  | .bLdHlMem nn => encodeWord 0x2A nn
  | .bLdDdMem p nn => 0xED :: encodeWord (0x4B ||| (p.code <<< 4)) nn
  | .bLdXyMem i nn => i.opcode :: encodeWord 0x2A nn
  | .bLdMemHl nn => encodeWord 0x22 nn
  | .bLdMemDd nn p => 0xED :: encodeWord (0x43 ||| (p.code <<< 4)) nn
  | .bLdMemXy nn i => i.opcode :: encodeWord 0x22 nn
  | .bLdSpHl => [0xF9]
  | .bLdSpXy i => [i.opcode, 0xF9]
  | .bPush q => [0xC5 ||| (q.code <<< 4)]
  | .bPushXy i => [i.opcode, 0xE5]
  | .bPop q => [0xC1 ||| (q.code <<< 4)]
  | .bPopXy i => [i.opcode, 0xE1]
  | .bExDeHl => [0xEB]
  | .bExAf => [0x08]
  | .bExx => [0xD9]
  | .bExSpHl => [0xE3]
  | .bExSpXy i => [i.opcode, 0xE3]
  | .bLdi => [0xED, 0xA0]
  | .bLdir => [0xED, 0xB0]
  | .bLdd => [0xED, 0xA8]
  | .bLddr => [0xED, 0xB8]
  | .bCpi => [0xED, 0xA1]
  | .bCpir => [0xED, 0xB1]
  | .bCpd => [0xED, 0xA9]
  | .bCpdr => [0xED, 0xB9]
  | .bAdd m => encodeAlu 0x80 m
  | .bAdc m => encodeAlu 0x88 m
  | .bSub m => encodeAlu 0x90 m
  | .bSbc m => encodeAlu 0x98 m
  | .bAnd m => encodeAlu 0xA0 m
  | .bXor m => encodeAlu 0xA8 m
  | .bOr m => encodeAlu 0xB0 m
  | .bCp m => encodeAlu 0xB8 m
  | .bInc v => encodeIncDec 0x04 v
  | .bDec v => encodeIncDec 0x05 v
  | .bDaa => [0x27]
  | .bCpl => [0x2F]
  | .bNeg => [0xED, 0x44]
  | .bCcf => [0x3F]
  | .bScf => [0x37]
  | .bAddHl p => [0x09 ||| (p.code <<< 4)]
  | .bAdcHl p => [0xED, 0x4A ||| (p.code <<< 4)]
  | .bSbcHl p => [0xED, 0x42 ||| (p.code <<< 4)]
  | .bAddXy i p => [i.opcode, 0x09 ||| (p.code <<< 4)]
  | .bIncSs p => [0x03 ||| (p.code <<< 4)]
  | .bIncXy i => [i.opcode, 0x23]
  | .bDecSs p => [0x0B ||| (p.code <<< 4)]
  | .bDecXy i => [i.opcode, 0x2B]
  | .bRlca => [0x07]
  | .bRla => [0x17]
  | .bRrca => [0x0F]
  | .bRra => [0x1F]
  | .bRlc v => encodeCB 0x00 v
  | .bRrc v => encodeCB 0x08 v
  | .bRl v => encodeCB 0x10 v
  | .bRr v => encodeCB 0x18 v
  | .bSla v => encodeCB 0x20 v
  | .bSra v => encodeCB 0x28 v
  | .bSrl v => encodeCB 0x38 v
  | .bRld => [0xED, 0x6F]
  | .bRrd => [0xED, 0x67]
  | .bBit b v => encodeCB (0x40 ||| (byte3 b <<< 3)) v
  | .bSet b v => encodeCB (0xC0 ||| (byte3 b <<< 3)) v
  | .bRes b v => encodeCB (0x80 ||| (byte3 b <<< 3)) v
  | .bJp nn => encodeWord 0xC3 nn
  | .bJpCc cc nn => encodeWord (0xC2 ||| (cc.code <<< 3)) nn
  | .bJr e => [0x18, e]
  | .bJrCc cc e => [0x20 ||| (cc.code <<< 3), e]
  | .bJpHl => [0xE9]
  | .bJpXy i => [i.opcode, 0xE9]
  | .bDjnz e => [0x10, e]
  | .bCall nn => encodeWord 0xCD nn
  | .bCallCc cc nn => encodeWord (0xC4 ||| (cc.code <<< 3)) nn
  | .bRet => [0xC9]
  | .bRetCc cc => [0xC0 ||| (cc.code <<< 3)]
  | .bReti => [0xED, 0x4D]
  | .bRetn => [0xED, 0x45]
  | .bRst t => [0xC7 ||| (byte3 t <<< 3)]
  | .bInAN n => [0xDB, n]
  | .bInRC r => [0xED, 0x40 ||| (r.code <<< 3)]
  | .bIni => [0xED, 0xA2]
  | .bInir => [0xED, 0xB2]
  | .bInd => [0xED, 0xAA]
  | .bIndr => [0xED, 0xBA]
  | .bOutNA n => [0xD3, n]
  | .bOutCR r => [0xED, 0x41 ||| (r.code <<< 3)]
  | .bOuti => [0xED, 0xA3]
  | .bOtir => [0xED, 0xB3]
  | .bOutd => [0xED, 0xAB]
  | .bOtdr => [0xED, 0xBB]
  | .bNop => [0x00]
  | .bHalt => [0x76]
  | .bDi => [0xF3]
  | .bEi => [0xFB]
  | .bIm .im0 => [0xED, 0x46]
  | .bIm .im1 => [0xED, 0x56]
  | .bIm .im2 => [0xED, 0x5E]
  | .bUnkCb s => [0xCB, 0x30 ||| byte3 s]
  | .bUnkEd x => [0xED, x]
  | .bUnkXy i => [i.opcode]
  | .bUnkXycb i d x => [i.opcode, 0xCB, d, x]

/-- The CPU an instruction belongs to. -/
def Instr.cpu : Instr → CpuKind
  | .aLda _ | .aLdx _ | .aLdy _ | .aSta _ | .aStx _ | .aSty _ => .a
  | .aTax | .aTay | .aTxa | .aTya | .aTsx | .aTxs | .aPha | .aPhp | .aPla | .aPlp => .a
  | .aAdc _ | .aSbc _ | .aAnd _ | .aOra _ | .aEor _ | .aCmp _ | .aCpx _ | .aCpy _ | .aBit _ | .aInc _ | .aDec _ => .a
  | .aInx | .aIny | .aDex | .aDey | .aAsl _ | .aLsr _ | .aRol _ | .aRor _ => .a
  | .aBpl _ | .aBmi _ | .aBvc _ | .aBvs _ | .aBcc _ | .aBcs _ | .aBne _ | .aBeq _ => .a
  | .aJmp _ | .aJmpInd _ | .aJsr _ | .aRts | .aClc | .aSec | .aCli | .aSei | .aClv | .aCld | .aSed => .a
  | .aNop | .aNop1 _ | .aNop2 _ _ | .aUnk _ | .aBrk | .aRti => .a
  | .bLdRR _ _ | .bLdRN _ _ | .bLdRHl _ | .bLdRXy _ _ _ | .bLdHlR _ | .bLdXyR _ _ _ | .bLdHlN _ | .bLdXyN _ _ _ => .b
  | .bLdABc | .bLdADe | .bLdAMem _ | .bLdBcA | .bLdDeA | .bLdMemA _ | .bLdAI | .bLdARefresh | .bLdIA | .bLdRefreshA => .b
  | .bLdDdNn _ _ | .bLdXyNn _ _ | .bLdHlMem _ | .bLdDdMem _ _ | .bLdXyMem _ _ | .bLdMemHl _ | .bLdMemDd _ _ => .b
  | .bLdMemXy _ _ | .bLdSpHl | .bLdSpXy _ | .bPush _ | .bPushXy _ | .bPop _ | .bPopXy _ => .b
  | .bExDeHl | .bExAf | .bExx | .bExSpHl | .bExSpXy _ => .b
  | .bLdi | .bLdir | .bLdd | .bLddr | .bCpi | .bCpir | .bCpd | .bCpdr => .b
  | .bAdd _ | .bAdc _ | .bSub _ | .bSbc _ | .bAnd _ | .bXor _ | .bOr _ | .bCp _ | .bInc _ | .bDec _ => .b
  | .bDaa | .bCpl | .bNeg | .bCcf | .bScf => .b
  | .bAddHl _ | .bAdcHl _ | .bSbcHl _ | .bAddXy _ _ | .bIncSs _ | .bIncXy _ | .bDecSs _ | .bDecXy _ => .b
  | .bRlca | .bRla | .bRrca | .bRra => .b
  | .bRlc _ | .bRrc _ | .bRl _ | .bRr _ | .bSla _ | .bSra _ | .bSrl _ | .bRld | .bRrd => .b
  | .bBit _ _ | .bSet _ _ | .bRes _ _ => .b
  | .bJp _ | .bJpCc _ _ | .bJr _ | .bJrCc _ _ | .bJpHl | .bJpXy _ | .bDjnz _ => .b
  | .bCall _ | .bCallCc _ _ | .bRet | .bRetCc _ | .bReti | .bRetn | .bRst _ => .b
  | .bInAN _ | .bInRC _ | .bIni | .bInir | .bInd | .bIndr => .b
  | .bOutNA _ | .bOutCR _ | .bOuti | .bOtir | .bOutd | .bOtdr => .b
  | .bNop | .bHalt | .bDi | .bEi | .bIm _ | .bUnkCb _ | .bUnkEd _ | .bUnkXy _ | .bUnkXycb _ _ _ => .b

/-- The opcode bytes of an instruction read as one number, operand bytes left out: the key of a cycle-table entry
(R640). CPU-A and CPU-B's main map: the opcode; CB, ED and XY maps: prefix and opcode; XYCB: both prefixes and opcode;
a lone prefix: the prefix. -/
def opcodeKey (i : Instr) : Nat :=
  match i.cpu, encode i with
  | .a, b0 :: _ => b0.toNat
  | .b, [b0] => b0.toNat
  | .b, [b0, b1] =>
    if b0 = 0xCB ∨ b0 = 0xED ∨ b0 = 0xDD ∨ b0 = 0xFD then b0.toNat * 256 + b1.toNat else b0.toNat
  | .b, [b0, b1, _] => if b0 = 0xDD ∨ b0 = 0xFD then b0.toNat * 256 + b1.toNat else b0.toNat
  | .b, [b0, b1, _, b3] =>
    if b1 = 0xCB then (b0.toNat * 256 + b1.toNat) * 256 + b3.toNat else b0.toNat * 256 + b1.toNat
  | _, _ => 0

/-! ### Instructions by the numbers of the opcode table -/

/-- The CPU whose row a number of the opcode table belongs to: a row of CPU-A gives bits to the opcode byte alone, and
every row of CPU-B of more than one byte has a first byte that is not zero in the highest place. A number below
256 is read as CPU-A's (log entry 3). -/
def tableCpu (w : Nat) : CpuKind := if w < 256 then .a else .b

/-- Byte `k` of a row's instruction, from the row's number: the table writes the bytes of a row first byte highest
(R136), so byte `k` of `n` bytes stands at bit `8 * (n - 1 - k)`; bytes the row gives no bits are 0. -/
def tableByte (n w k : Nat) : Byte :=
  if k < n then BitVec.ofNat 8 (w >>> (8 * (n - 1 - k))) else 0

/-- How many bytes a row's number has: one for CPU-A, `nbits / 8` for CPU-B. -/
def tableBytes (nbits w : Nat) : Nat :=
  match tableCpu w with
  | .a => 1
  | .b => nbits / 8

/-- The instruction the decoder reads from a row of the opcode table. A number of no bits or of more than four bytes is no row. -/
def decodeTableWord (nbits w : Nat) : Option Instr :=
  let n := tableBytes nbits w
  if n = 0 ∨ 4 < n ∨ 2 ^ (8 * n) ≤ w then none
  else some (decode (tableCpu w) (tableByte n w 0) (tableByte n w 1) (tableByte n w 2) (tableByte n w 3))

end Sys2Proof
end

