-- ==== Sys2Proof/Machine/Timing.lean ====
section
/-! DEFINITION. The length of an instruction in bytes (30_encoding.md R103, R124), its opcode fetches (10_state.md R32)
and its cycle cost (70_reset_and_hazards.md R640 to R642). -/

namespace Sys2Proof

/-- Length with a mode's operand bytes (R109 to R116). -/
def AddrMode.length : AddrMode → Nat
  | .zp _ | .zpx _ | .zpy _ | .indx _ | .indy _ => 2
  | .abs _ | .absx _ | .absy _ => 3

/-- Length with an immediate or a mode. -/
def AOperand.length : AOperand → Nat
  | .imm _ => 2
  | .mem m => m.length

/-- Length of a shift or rotate. -/
def ATarget.length : ATarget → Nat
  | .acc => 1
  | .mem m => m.length

/-- Length of an accumulator operation (R371). -/
def Src8.length : Src8 → Nat
  | .reg _ | .hl => 1
  | .imm _ => 2
  | .idx _ _ => 3

/-- Length of INC and DEC on a location (R380, R381). -/
def Loc8.length : Loc8 → Nat
  | .reg _ | .hl => 1
  | .idx _ _ => 3

/-- Length of a CB-family instruction (R404). -/
def Loc8.lengthCB : Loc8 → Nat
  | .reg _ | .hl => 2
  | .idx _ _ => 4

/-- `len`, the length in bytes. -/
def Instr.length : Instr → Nat
  | .aLda m | .aLdx m | .aLdy m | .aAdc m | .aSbc m | .aAnd m | .aOra m | .aEor m | .aCmp m | .aCpx m | .aCpy m => m.length
  | .aSta m | .aStx m | .aSty m | .aBit m | .aInc m | .aDec m => m.length
  | .aAsl t | .aLsr t | .aRol t | .aRor t => t.length
  | .aTax | .aTay | .aTxa | .aTya | .aTsx | .aTxs | .aPha | .aPhp | .aPla | .aPlp => 1
  | .aInx | .aIny | .aDex | .aDey => 1
  | .aBpl _ | .aBmi _ | .aBvc _ | .aBvs _ | .aBcc _ | .aBcs _ | .aBne _ | .aBeq _ => 2
  | .aJmp _ | .aJmpInd _ | .aJsr _ => 3
  | .aRts | .aClc | .aSec | .aCli | .aSei | .aClv | .aCld | .aSed | .aNop | .aBrk | .aRti => 1
  | .aNop1 _ | .aUnk _ => 1
  | .aNop2 _ _ => 2
  | .bLdRR _ _ | .bLdRHl _ | .bLdHlR _ | .bLdABc | .bLdADe | .bLdBcA | .bLdDeA => 1
  | .bLdRN _ _ | .bLdHlN _ | .bLdAI | .bLdARefresh | .bLdIA | .bLdRefreshA => 2
  | .bLdRXy _ _ _ | .bLdXyR _ _ _ | .bLdAMem _ | .bLdMemA _ => 3
  | .bLdXyN _ _ _ => 4
  | .bLdDdNn _ _ | .bLdHlMem _ | .bLdMemHl _ => 3
  | .bLdXyNn _ _ | .bLdDdMem _ _ | .bLdXyMem _ _ | .bLdMemDd _ _ | .bLdMemXy _ _ => 4
  | .bLdSpHl | .bPush _ | .bPop _ => 1
  | .bLdSpXy _ | .bPushXy _ | .bPopXy _ => 2
  | .bExDeHl | .bExAf | .bExx | .bExSpHl => 1
  | .bExSpXy _ | .bLdi | .bLdir | .bLdd | .bLddr | .bCpi | .bCpir | .bCpd | .bCpdr => 2
  | .bAdd m | .bAdc m | .bSub m | .bSbc m | .bAnd m | .bXor m | .bOr m | .bCp m => m.length
  | .bInc v | .bDec v => v.length
  | .bDaa | .bCpl | .bCcf | .bScf => 1
  | .bNeg => 2
  | .bAddHl _ | .bIncSs _ | .bDecSs _ => 1
  | .bAdcHl _ | .bSbcHl _ | .bAddXy _ _ | .bIncXy _ | .bDecXy _ => 2
  | .bRlca | .bRla | .bRrca | .bRra => 1
  | .bRlc v | .bRrc v | .bRl v | .bRr v | .bSla v | .bSra v | .bSrl v => v.lengthCB
  | .bRld | .bRrd => 2
  | .bBit _ v | .bSet _ v | .bRes _ v => v.lengthCB
  | .bJp _ | .bJpCc _ _ | .bCall _ | .bCallCc _ _ => 3
  | .bJr _ | .bJrCc _ _ | .bDjnz _ | .bJpXy _ => 2
  | .bJpHl | .bRet | .bRetCc _ | .bRst _ => 1
  | .bReti | .bRetn => 2
  | .bInAN _ | .bInRC _ | .bIni | .bInir | .bInd | .bIndr => 2
  | .bOutNA _ | .bOutCR _ | .bOuti | .bOtir | .bOutd | .bOtdr => 2
  | .bNop | .bHalt | .bDi | .bEi => 1
  | .bIm _ | .bUnkCb _ | .bUnkEd _ => 2
  | .bUnkXy _ => 1
  | .bUnkXycb _ _ _ => 4

/-- Opcode fetches of an accumulator operation. -/
def Src8.fetches : Src8 → Nat
  | .reg _ | .imm _ | .hl => 1
  | .idx _ _ => 2

/-- Opcode fetches of INC and DEC on a location. -/
def Loc8.fetches : Loc8 → Nat
  | .reg _ | .hl => 1
  | .idx _ _ => 2

/-- How many opcode fetches `R` counts for an instruction of CPU-B (R32, R520): 1 unprefixed or for a lone prefix, 2 with
a prefix, the XYCB forms included. CPU-A has no `R`. -/
def Instr.fetches : Instr → Nat
  | .aLda _ | .aLdx _ | .aLdy _ | .aSta _ | .aStx _ | .aSty _ => 0
  | .aTax | .aTay | .aTxa | .aTya | .aTsx | .aTxs | .aPha | .aPhp | .aPla | .aPlp => 0
  | .aAdc _ | .aSbc _ | .aAnd _ | .aOra _ | .aEor _ | .aCmp _ | .aCpx _ | .aCpy _ | .aBit _ | .aInc _ | .aDec _ => 0
  | .aInx | .aIny | .aDex | .aDey | .aAsl _ | .aLsr _ | .aRol _ | .aRor _ => 0
  | .aBpl _ | .aBmi _ | .aBvc _ | .aBvs _ | .aBcc _ | .aBcs _ | .aBne _ | .aBeq _ => 0
  | .aJmp _ | .aJmpInd _ | .aJsr _ | .aRts | .aClc | .aSec | .aCli | .aSei | .aClv | .aCld | .aSed => 0
  | .aNop | .aNop1 _ | .aNop2 _ _ | .aUnk _ | .aBrk | .aRti => 0
  | .bLdRR _ _ | .bLdRN _ _ | .bLdRHl _ | .bLdHlR _ | .bLdHlN _ => 1
  | .bLdABc | .bLdADe | .bLdAMem _ | .bLdBcA | .bLdDeA | .bLdMemA _ => 1
  | .bLdRXy _ _ _ | .bLdXyR _ _ _ | .bLdXyN _ _ _ | .bLdAI | .bLdARefresh | .bLdIA | .bLdRefreshA => 2
  | .bLdDdNn _ _ | .bLdHlMem _ | .bLdMemHl _ | .bLdSpHl | .bPush _ | .bPop _ => 1
  | .bLdXyNn _ _ | .bLdDdMem _ _ | .bLdXyMem _ _ | .bLdMemDd _ _ | .bLdMemXy _ _ => 2
  | .bLdSpXy _ | .bPushXy _ | .bPopXy _ => 2
  | .bExDeHl | .bExAf | .bExx | .bExSpHl => 1
  | .bExSpXy _ | .bLdi | .bLdir | .bLdd | .bLddr | .bCpi | .bCpir | .bCpd | .bCpdr => 2
  | .bAdd m | .bAdc m | .bSub m | .bSbc m | .bAnd m | .bXor m | .bOr m | .bCp m => m.fetches
  | .bInc v | .bDec v => v.fetches
  | .bDaa | .bCpl | .bCcf | .bScf => 1
  | .bNeg => 2
  | .bAddHl _ | .bIncSs _ | .bDecSs _ => 1
  | .bAdcHl _ | .bSbcHl _ | .bAddXy _ _ | .bIncXy _ | .bDecXy _ => 2
  | .bRlca | .bRla | .bRrca | .bRra => 1
  | .bRlc _ | .bRrc _ | .bRl _ | .bRr _ | .bSla _ | .bSra _ | .bSrl _ | .bRld | .bRrd => 2
  | .bBit _ _ | .bSet _ _ | .bRes _ _ => 2
  | .bJp _ | .bJpCc _ _ | .bJr _ | .bJrCc _ _ | .bJpHl | .bDjnz _ => 1
  | .bJpXy _ => 2
  | .bCall _ | .bCallCc _ _ | .bRet | .bRetCc _ | .bRst _ => 1
  | .bReti | .bRetn => 2
  | .bInAN _ | .bOutNA _ => 1
  | .bInRC _ | .bIni | .bInir | .bInd | .bIndr | .bOutCR _ | .bOuti | .bOtir | .bOutd | .bOtdr => 2
  | .bNop | .bHalt | .bDi | .bEi => 1
  | .bIm _ | .bUnkCb _ | .bUnkEd _ | .bUnkXycb _ _ _ => 2
  | .bUnkXy _ => 1

/-- Reads of R641: indexed modes have no page-crossing penalty. -/
def AddrMode.readCycles : AddrMode → Nat
  | .zp _ => 3
  | .zpx _ | .zpy _ | .abs _ | .absx _ | .absy _ => 4
  | .indx _ => 6
  | .indy _ => 5

/-- Stores of R641. -/
def AddrMode.writeCycles : AddrMode → Nat
  | .zp _ => 3
  | .zpx _ | .zpy _ | .abs _ => 4
  | .absx _ | .absy _ => 5
  | .indx _ | .indy _ => 6

/-- Read-modify-write instructions of R641, R203. -/
def AddrMode.rmwCycles : AddrMode → Nat
  | .zp _ => 5
  | .zpx _ | .abs _ => 6
  | .absx _ => 7
  | .zpy _ | .absy _ | .indx _ | .indy _ => 7

/-- An operand of R641: 2 for an immediate. -/
def AOperand.cycles : AOperand → Nat
  | .imm _ => 2
  | .mem m => m.readCycles

/-- A shift or rotate of R641: 2 on the accumulator. -/
def ATarget.cycles : ATarget → Nat
  | .acc => 2
  | .mem m => m.rmwCycles

/-- The two-byte no-ops by shape (R283). -/
def nop2Cycles (op : Byte) : Nat :=
  if op = 0x04 ∨ op = 0x44 ∨ op = 0x64 then 3
  else if op = 0x14 ∨ op = 0x34 ∨ op = 0x54 ∨ op = 0x74 ∨ op = 0xD4 ∨ op = 0xF4 then 4
  else 2

/-- An accumulator operation (R371). -/
def Src8.cycles : Src8 → Nat
  | .reg _ => 4
  | .imm _ | .hl => 7
  | .idx _ _ => 19

/-- INC and DEC on a location (R380, R381). -/
def Loc8.cycles : Loc8 → Nat
  | .reg _ => 4
  | .hl => 11
  | .idx _ _ => 23

/-- CB rotates and shifts, SET and RES (R404). -/
def Loc8.cyclesCB : Loc8 → Nat
  | .reg _ => 8
  | .hl => 15
  | .idx _ _ => 23

/-- BIT (R404). -/
def Loc8.cyclesBit : Loc8 → Nat
  | .reg _ => 8
  | .hl => 12
  | .idx _ _ => 20

/-- The default of `CYC_A` and `CYC_B` (R641, R642). `v` is true for the taken or repeating variant. -/
def Instr.defaultCycles (v : Bool) : Instr → Nat
  | .aLda m | .aLdx m | .aLdy m | .aAdc m | .aSbc m | .aAnd m | .aOra m | .aEor m | .aCmp m | .aCpx m | .aCpy m => m.cycles
  | .aSta m | .aStx m | .aSty m => m.writeCycles
  | .aBit m => m.readCycles
  | .aInc m | .aDec m => m.rmwCycles
  | .aAsl t | .aLsr t | .aRol t | .aRor t => t.cycles
  | .aTax | .aTay | .aTxa | .aTya | .aTsx | .aTxs | .aInx | .aIny | .aDex | .aDey => 2
  | .aPha | .aPhp => 3
  | .aPla | .aPlp => 4
  | .aBpl _ | .aBmi _ | .aBvc _ | .aBvs _ | .aBcc _ | .aBcs _ | .aBne _ | .aBeq _ => if v then 3 else 2
  | .aJmp _ => 3
  | .aJmpInd _ => 5
  | .aJsr _ | .aRts => 6
  | .aClc | .aSec | .aCli | .aSei | .aClv | .aCld | .aSed | .aNop | .aBrk | .aRti | .aNop1 _ | .aUnk _ => 2
  | .aNop2 op _ => nop2Cycles op
  | .bLdRR _ _ => 4
  | .bLdRN _ _ | .bLdRHl _ | .bLdHlR _ | .bLdABc | .bLdADe | .bLdBcA | .bLdDeA => 7
  | .bLdHlN _ => 10
  | .bLdRXy _ _ _ | .bLdXyR _ _ _ | .bLdXyN _ _ _ => 19
  | .bLdAMem _ | .bLdMemA _ => 13
  | .bLdAI | .bLdARefresh | .bLdIA | .bLdRefreshA => 9
  | .bLdDdNn _ _ => 10
  | .bLdXyNn _ _ => 14
  | .bLdHlMem _ | .bLdMemHl _ => 16
  | .bLdDdMem _ _ | .bLdMemDd _ _ | .bLdXyMem _ _ | .bLdMemXy _ _ => 20
  | .bLdSpHl => 6
  | .bLdSpXy _ => 10
  | .bPush _ => 11
  | .bPushXy _ => 15
  | .bPop _ => 10
  | .bPopXy _ => 14
  | .bExDeHl | .bExAf | .bExx => 4
  | .bExSpHl => 19
  | .bExSpXy _ => 23
  | .bLdi | .bLdd | .bCpi | .bCpd | .bIni | .bInd | .bOuti | .bOutd => 16
  | .bLdir | .bLddr | .bCpir | .bCpdr | .bInir | .bIndr | .bOtir | .bOtdr => if v then 21 else 16
  | .bAdd m | .bAdc m | .bSub m | .bSbc m | .bAnd m | .bXor m | .bOr m | .bCp m => m.cycles
  | .bInc l | .bDec l => l.cycles
  | .bDaa | .bCpl | .bCcf | .bScf | .bRlca | .bRla | .bRrca | .bRra | .bNop | .bDi | .bEi | .bHalt => 4
  | .bNeg | .bIm _ => 8
  | .bAddHl _ => 11
  | .bAdcHl _ | .bSbcHl _ | .bAddXy _ _ => 15
  | .bIncSs _ | .bDecSs _ => 6
  | .bIncXy _ | .bDecXy _ => 10
  | .bRlc l | .bRrc l | .bRl l | .bRr l | .bSla l | .bSra l | .bSrl l | .bSet _ l | .bRes _ l => l.cyclesCB
  | .bBit _ l => l.cyclesBit
  | .bRld | .bRrd => 18
  | .bJp _ | .bJpCc _ _ => 10
  | .bJr _ => 12
  | .bJrCc _ _ => if v then 12 else 7
  | .bJpHl => 4
  | .bJpXy _ => 8
  | .bDjnz _ => if v then 13 else 8
  | .bCall _ => 17
  | .bCallCc _ _ => if v then 17 else 10
  | .bRet => 10
  | .bRetCc _ => if v then 11 else 5
  | .bReti | .bRetn => 14
  | .bRst _ => 11
  | .bInAN _ | .bOutNA _ => 11
  | .bInRC _ | .bOutCR _ => 12
  | .bUnkCb _ | .bUnkEd _ => 8
  | .bUnkXy _ => 4
  | .bUnkXycb _ _ _ => 23

namespace Machine

/-- `CYC_A` / `CYC_B` (R640): the session's entry for the opcode and variant, else the default. A configured cost of 0
counts as 1, because every entry is at least 1 (log entry 9). -/
def cyc (p : Params) (i : Instr) (v : Bool) : Nat :=
  match p.cycles.find? (fun e => e.opcode == opcodeKey i && e.variant == v) with
  | some e => max 1 e.cost
  | none => i.defaultCycles v

end Machine

end Sys2Proof
end

