-- ==== Sys2Proof/Machine/Retire.lean ====
section
/-! DEFINITION. How an instruction ends (00_scope.md R17, 70_reset_and_hazards.md R613): `PC` past the instruction or at
its target, the cost as the step's return value, and on CPU-B the advance of `R`, which comes first (R32). No
instruction ends in a fault or a refusal (60_exceptions.md R582). -/

namespace Sys2Proof.Machine

/-- The outcome of an instruction. -/
abbrev Result := Host.Outcome State Fault Refusal

/-- `cycles <- n` (R15) with the cost of the instruction's variant. -/
def State.charge (s : State) (i : Instr) (v : Bool) : State := { s with cycles := cyc s.params i v }

/-- An instruction of CPU-A that does not assign `PC`: `PC <- (PC + len) & 0xFFFF`. -/
def runA (i : Instr) (body : State → State) (s : State) : Result :=
  .next (((body s).setPcA (s.cpuA.pc + BitVec.ofNat 16 i.length)).charge i false)

/-- An instruction of CPU-A that sets `PC` to a target. -/
def jumpA (i : Instr) (v : Bool) (body : State → State) (target : Word) (s : State) : Result :=
  .next (((body s).setPcA target).charge i v)

/-- A conditional branch of CPU-A (R260). -/
def branchA (i : Instr) (taken : Bool) (e : Byte) (s : State) : Result :=
  jumpA i taken id (if taken then s.cpuA.pc + 2 + sext16 e else s.cpuA.pc + 2) s

/-- An instruction of CPU-B that does not assign `PC`. -/
def runB (i : Instr) (body : State → State) (s : State) : Result :=
  .next (((body (s.advanceR i.fetches)).setPcB (s.cpuB.pc + BitVec.ofNat 16 i.length)).charge i false)

/-- An instruction of CPU-B that sets `PC` to a target. -/
def jumpB (i : Instr) (v : Bool) (body : State → State) (target : Word) (s : State) : Result :=
  .next (((body (s.advanceR i.fetches)).setPcB target).charge i v)

/-- A repeating block instruction of CPU-B (R342, D23): one iteration; while `again` holds of the state after it, `PC`
stays on the instruction. -/
def repeatB (i : Instr) (body : State → State) (again : State → Bool) (s : State) : Result :=
  let t := body (s.advanceR i.fetches)
  if again t then .next ((t.setPcB s.cpuB.pc).charge i true)
  else .next ((t.setPcB (s.cpuB.pc + BitVec.ofNat 16 i.length)).charge i false)

end Sys2Proof.Machine
end

