-- ==== Sys2Proof/Machine/CpuAAlu.lean ====
section
/-! DEFINITION. CPU-A's arithmetic, logic, compares, increments, shifts and rotates (41_cpua_arith_logic.md R200 to
R223). The decimal flag is never consulted (R200). -/

namespace Sys2Proof.Machine

/-- ADC (R204). -/
def execAAdc (m : AOperand) (s : State) : Result :=
  runA (.aAdc m) (fun s => let r := adcA s.cpuA.a (s.operand m) s.cpuA.p; (s.setA r.1).setP r.2) s

/-- SBC (R205). -/
def execASbc (m : AOperand) (s : State) : Result :=
  runA (.aSbc m) (fun s => let r := sbcA s.cpuA.a (s.operand m) s.cpuA.p; (s.setA r.1).setP r.2) s

/-- AND (R206). -/
def execAAnd (m : AOperand) (s : State) : Result :=
  runA (.aAnd m) (fun s => let r := s.cpuA.a &&& s.operand m; (s.setA r).setNZ r) s

/-- ORA (R207). -/
def execAOra (m : AOperand) (s : State) : Result :=
  runA (.aOra m) (fun s => let r := s.cpuA.a ||| s.operand m; (s.setA r).setNZ r) s

/-- EOR (R208). -/
def execAEor (m : AOperand) (s : State) : Result :=
  runA (.aEor m) (fun s => let r := s.cpuA.a ^^^ s.operand m; (s.setA r).setNZ r) s

/-- CMP (R209). -/
def execACmp (m : AOperand) (s : State) : Result :=
  runA (.aCmp m) (fun s => s.setP (cmpA s.cpuA.a (s.operand m) s.cpuA.p)) s

/-- CPX (R210). -/
def execACpx (m : AOperand) (s : State) : Result :=
  runA (.aCpx m) (fun s => s.setP (cmpA s.cpuA.x (s.operand m) s.cpuA.p)) s

/-- CPY (R211). -/
def execACpy (m : AOperand) (s : State) : Result :=
  runA (.aCpy m) (fun s => s.setP (cmpA s.cpuA.y (s.operand m) s.cpuA.p)) s

/-- BIT (R212): N and V from the memory operand, Z from the AND. -/
def execABit (m : AddrMode) (s : State) : Result :=
  runA (.aBit m) (fun s =>
    let v := s.read (s.ea m)
    s.setP { s.cpuA.p with z := s.cpuA.a &&& v == 0, n := bit v 7, v := bit v 6 }) s

/-- INC (R213): one read, one write (R203). -/
def execAInc (m : AddrMode) (s : State) : Result :=
  runA (.aInc m) (fun s => let r := s.read (s.ea m) + 1; (s.write (s.ea m) r).setNZ r) s

/-- DEC (R214). -/
def execADec (m : AddrMode) (s : State) : Result :=
  runA (.aDec m) (fun s => let r := s.read (s.ea m) - 1; (s.write (s.ea m) r).setNZ r) s

/-- INX (R215). -/
def execAInx (s : State) : Result := runA .aInx (fun s => (s.setX (s.cpuA.x + 1)).setNZ (s.cpuA.x + 1)) s

/-- INY (R216). -/
def execAIny (s : State) : Result := runA .aIny (fun s => (s.setY (s.cpuA.y + 1)).setNZ (s.cpuA.y + 1)) s

/-- DEX (R217). -/
def execADex (s : State) : Result := runA .aDex (fun s => (s.setX (s.cpuA.x - 1)).setNZ (s.cpuA.x - 1)) s

/-- DEY (R218). -/
def execADey (s : State) : Result := runA .aDey (fun s => (s.setY (s.cpuA.y - 1)).setNZ (s.cpuA.y - 1)) s

/-- A shift or rotate of `v` written back with its flags (R219 to R222). -/
def State.shiftTarget (s : State) (t : ATarget) (r : Shifted) : State :=
  (s.setTarget t r.1).setP (s.cpuA.p.shifted r)

/-- ASL (R219). -/
def execAAsl (t : ATarget) (s : State) : Result :=
  runA (.aAsl t) (fun s => s.shiftTarget t (shiftLeft (s.target t) false)) s

/-- LSR (R220). -/
def execALsr (t : ATarget) (s : State) : Result :=
  runA (.aLsr t) (fun s => s.shiftTarget t (shiftRight (s.target t) false)) s

/-- ROL (R221). -/
def execARol (t : ATarget) (s : State) : Result :=
  runA (.aRol t) (fun s => s.shiftTarget t (shiftLeft (s.target t) s.cpuA.p.c)) s

/-- ROR (R222). -/
def execARor (t : ATarget) (s : State) : Result :=
  runA (.aRor t) (fun s => s.shiftTarget t (shiftRight (s.target t) s.cpuA.p.c)) s

end Sys2Proof.Machine
end

