-- ==== Sys2Proof/Machine/CpuAControl.lean ====
section
/-! DEFINITION. CPU-A's branches, jumps, subroutines, flag instructions, no-ops and unknown opcodes
(42_cpua_control.md R260 to R286). -/

namespace Sys2Proof.Machine

/-- BPL (R261). -/
def execABpl (e : Byte) (s : State) : Result := branchA (.aBpl e) (!s.cpuA.p.n) e s

/-- BMI (R262). -/
def execABmi (e : Byte) (s : State) : Result := branchA (.aBmi e) s.cpuA.p.n e s

/-- BVC (R263). -/
def execABvc (e : Byte) (s : State) : Result := branchA (.aBvc e) (!s.cpuA.p.v) e s

/-- BVS (R264). -/
def execABvs (e : Byte) (s : State) : Result := branchA (.aBvs e) s.cpuA.p.v e s

/-- BCC (R265). -/
def execABcc (e : Byte) (s : State) : Result := branchA (.aBcc e) (!s.cpuA.p.c) e s

/-- BCS (R266). -/
def execABcs (e : Byte) (s : State) : Result := branchA (.aBcs e) s.cpuA.p.c e s

/-- BNE (R267). -/
def execABne (e : Byte) (s : State) : Result := branchA (.aBne e) (!s.cpuA.p.z) e s

/-- BEQ (R268). -/
def execABeq (e : Byte) (s : State) : Result := branchA (.aBeq e) s.cpuA.p.z e s

/-- JMP absolute (R270). -/
def execAJmp (nn : Word) (s : State) : Result := jumpA (.aJmp nn) false id nn s

/-- The second address of the indirect jump's pointer, in the pointer's own page (R271). -/
def samePageNext (ptr : Word) : Word := word (hiByte ptr) (loByte ptr + 1)

/-- JMP indirect, with the page-wrap defect (R271). -/
def execAJmpInd (ptr : Word) (s : State) : Result :=
  jumpA (.aJmpInd ptr) false id (word (s.read (samePageNext ptr)) (s.read ptr)) s

/-- JSR (R272): the address of its last byte is pushed, high byte first. -/
def execAJsr (nn : Word) (s : State) : Result :=
  jumpA (.aJsr nn) false (fun s => s.push16A (s.cpuA.pc + 2)) nn s

/-- RTS (R273). -/
def execARts (s : State) : Result := jumpA .aRts false (fun s => s.pull8A.pull8A) (s.pulled16A + 1) s

/-- CLC (R274). -/
def execAClc (s : State) : Result := runA .aClc (fun s => s.setP { s.cpuA.p with c := false }) s

/-- SEC (R275). -/
def execASec (s : State) : Result := runA .aSec (fun s => s.setP { s.cpuA.p with c := true }) s

/-- CLI (R276). -/
def execACli (s : State) : Result := runA .aCli (fun s => s.setP { s.cpuA.p with i := false }) s

/-- SEI (R277). -/
def execASei (s : State) : Result := runA .aSei (fun s => s.setP { s.cpuA.p with i := true }) s

/-- CLV (R278). -/
def execAClv (s : State) : Result := runA .aClv (fun s => s.setP { s.cpuA.p with v := false }) s

/-- CLD (R279). -/
def execACld (s : State) : Result := runA .aCld (fun s => s.setP { s.cpuA.p with d := false }) s

/-- SED (R280). -/
def execASed (s : State) : Result := runA .aSed (fun s => s.setP { s.cpuA.p with d := true }) s

/-- NOP (R281). -/
def execANop (s : State) : Result := runA .aNop id s

/-- Undocumented one-byte no-op (R282). -/
def execANop1 (op : Byte) (s : State) : Result := runA (.aNop1 op) id s

/-- Undocumented two-byte no-op (R283): the operand byte is skipped. -/
def execANop2 (op n : Byte) (s : State) : Result := runA (.aNop2 op n) id s

/-- Unknown opcode (R284). -/
def execAUnk (op : Byte) (s : State) : Result := runA (.aUnk op) id s

/-- 0x00, BRK on a 6502: an unknown opcode here (R285). -/
def execABrk (s : State) : Result := runA .aBrk id s

/-- 0x40, RTI on a 6502: an unknown opcode here (R285). -/
def execARti (s : State) : Result := runA .aRti id s

end Sys2Proof.Machine
end

