-- ==== Sys2Proof/Machine/CpuALoad.lean ====
section
/-! DEFINITION. CPU-A's loads, stores, transfers and stack bytes (40_cpua_load_store.md R150 to R166). -/

namespace Sys2Proof.Machine

/-- LDA (R151). -/
def execALda (m : AOperand) (s : State) : Result :=
  runA (.aLda m) (fun s => (s.setA (s.operand m)).setNZ (s.operand m)) s

/-- LDX (R152). -/
def execALdx (m : AOperand) (s : State) : Result :=
  runA (.aLdx m) (fun s => (s.setX (s.operand m)).setNZ (s.operand m)) s

/-- LDY (R153). -/
def execALdy (m : AOperand) (s : State) : Result :=
  runA (.aLdy m) (fun s => (s.setY (s.operand m)).setNZ (s.operand m)) s

/-- STA (R154). -/
def execASta (m : AddrMode) (s : State) : Result :=
  runA (.aSta m) (fun s => s.write (s.ea m) s.cpuA.a) s

/-- STX (R155). -/
def execAStx (m : AddrMode) (s : State) : Result :=
  runA (.aStx m) (fun s => s.write (s.ea m) s.cpuA.x) s

/-- STY (R156). -/
def execASty (m : AddrMode) (s : State) : Result :=
  runA (.aSty m) (fun s => s.write (s.ea m) s.cpuA.y) s

/-- TAX (R157). -/
def execATax (s : State) : Result := runA .aTax (fun s => (s.setX s.cpuA.a).setNZ s.cpuA.a) s

/-- TAY (R158). -/
def execATay (s : State) : Result := runA .aTay (fun s => (s.setY s.cpuA.a).setNZ s.cpuA.a) s

/-- TXA (R159). -/
def execATxa (s : State) : Result := runA .aTxa (fun s => (s.setA s.cpuA.x).setNZ s.cpuA.x) s

/-- TYA (R160). -/
def execATya (s : State) : Result := runA .aTya (fun s => (s.setA s.cpuA.y).setNZ s.cpuA.y) s

/-- TSX (R161). -/
def execATsx (s : State) : Result := runA .aTsx (fun s => (s.setX s.cpuA.s).setNZ s.cpuA.s) s

/-- TXS (R162): no flag. -/
def execATxs (s : State) : Result := runA .aTxs (fun s => s.setS s.cpuA.x) s

/-- PHA (R163). -/
def execAPha (s : State) : Result := runA .aPha (fun s => s.push8A s.cpuA.a) s

/-- PHP (R164): bits 5 and 4 of the pushed byte are 1. -/
def execAPhp (s : State) : Result := runA .aPhp (fun s => s.push8A s.cpuA.p.toByte) s

/-- PLA (R165). -/
def execAPla (s : State) : Result := runA .aPla (fun s => (s.pull8A.setA s.pulled8A).setNZ s.pulled8A) s

/-- PLP (R166). -/
def execAPlp (s : State) : Result := runA .aPlp (fun s => s.pull8A.setP (PFlags.ofByte s.pulled8A)) s

end Sys2Proof.Machine
end

