-- ==== Sys2Proof/Machine/CpuBAlu.lean ====
section
/-! DEFINITION. CPU-B's 8-bit and 16-bit arithmetic and logic (44_cpub_arith_logic.md R370 to R397). -/

namespace Sys2Proof.Machine

/-- A result put into `A` with its six flags. -/
def State.setAcc (s : State) (r : Byte × FlagSet) : State := (s.setReg .a r.1).setFlags r.2

/-- ADD A,s (R372). -/
def execBAdd (m : Src8) (s : State) : Result :=
  runB (.bAdd m) (fun s => s.setAcc (add8 (s.reg .a) (s.src8 m) false)) s

/-- ADC A,s (R373). -/
def execBAdc (m : Src8) (s : State) : Result :=
  runB (.bAdc m) (fun s => s.setAcc (add8 (s.reg .a) (s.src8 m) s.flags.c)) s

/-- SUB s (R374). -/
def execBSub (m : Src8) (s : State) : Result :=
  runB (.bSub m) (fun s => s.setAcc (sub8 (s.reg .a) (s.src8 m) false)) s

/-- SBC A,s (R375). -/
def execBSbc (m : Src8) (s : State) : Result :=
  runB (.bSbc m) (fun s => s.setAcc (sub8 (s.reg .a) (s.src8 m) s.flags.c)) s

/-- AND s (R376): H is set. -/
def execBAnd (m : Src8) (s : State) : Result :=
  runB (.bAnd m) (fun s => let r := s.reg .a &&& s.src8 m; s.setAcc (r, logic8 r true)) s

/-- XOR s (R377). -/
def execBXor (m : Src8) (s : State) : Result :=
  runB (.bXor m) (fun s => let r := s.reg .a ^^^ s.src8 m; s.setAcc (r, logic8 r false)) s

/-- OR s (R378). -/
def execBOr (m : Src8) (s : State) : Result :=
  runB (.bOr m) (fun s => let r := s.reg .a ||| s.src8 m; s.setAcc (r, logic8 r false)) s

/-- CP s (R379): the difference is discarded. -/
def execBCp (m : Src8) (s : State) : Result :=
  runB (.bCp m) (fun s => s.setFlags (sub8 (s.reg .a) (s.src8 m) false).2) s

/-- INC r, INC (HL), INC (XY+d) (R380). -/
def execBInc (v : Loc8) (s : State) : Result :=
  runB (.bInc v) (fun s => let r := inc8 (s.loc8 v) s.flags; (s.setLoc8 v r.1).setFlags r.2) s

/-- DEC r, DEC (HL), DEC (XY+d) (R381). -/
def execBDec (v : Loc8) (s : State) : Result :=
  runB (.bDec v) (fun s => let r := dec8 (s.loc8 v) s.flags; (s.setLoc8 v r.1).setFlags r.2) s

/-- DAA (R382). -/
def execBDaa (s : State) : Result := runB .bDaa (fun s => s.setAcc (daa8 (s.reg .a) s.flags)) s

/-- CPL (R383). -/
def execBCpl (s : State) : Result :=
  runB .bCpl (fun s => s.setAcc (s.reg .a ^^^ 0xFF, { s.flags with h := true, n := true })) s

/-- NEG (R384). -/
def execBNeg (s : State) : Result := runB .bNeg (fun s => s.setAcc (sub8 0 (s.reg .a) false)) s

/-- CCF (R385): H takes the old carry. -/
def execBCcf (s : State) : Result :=
  runB .bCcf (fun s => s.setFlags { s.flags with h := s.flags.c, c := !s.flags.c, n := false }) s

/-- SCF (R386). -/
def execBScf (s : State) : Result :=
  runB .bScf (fun s => s.setFlags { s.flags with c := true, h := false, n := false }) s

/-- ADD HL,ss (R390). -/
def execBAddHl (p : Pair) (s : State) : Result :=
  runB (.bAddHl p) (fun s => let r := add16 s.hl (s.pair p) s.flags; (s.setHl r.1).setFlags r.2) s

/-- ADC HL,ss (R391). -/
def execBAdcHl (p : Pair) (s : State) : Result :=
  runB (.bAdcHl p) (fun s => let r := adc16 s.hl (s.pair p) s.flags.c; (s.setHl r.1).setFlags r.2) s

/-- SBC HL,ss (R392). -/
def execBSbcHl (p : Pair) (s : State) : Result :=
  runB (.bSbcHl p) (fun s => let r := sbc16 s.hl (s.pair p) s.flags.c; (s.setHl r.1).setFlags r.2) s

/-- ADD XY,pp (R393). -/
def execBAddXy (i : Index) (p : IndexPair) (s : State) : Result :=
  runB (.bAddXy i p) (fun s =>
    let r := add16 (s.index i) (s.indexPair i p) s.flags
    (s.setIndex i r.1).setFlags r.2) s

/-- INC ss (R394): no flag. -/
def execBIncSs (p : Pair) (s : State) : Result := runB (.bIncSs p) (fun s => s.setPair p (s.pair p + 1)) s

/-- INC XY (R395): no flag. -/
def execBIncXy (i : Index) (s : State) : Result := runB (.bIncXy i) (fun s => s.setIndex i (s.index i + 1)) s

/-- DEC ss (R396): no flag. -/
def execBDecSs (p : Pair) (s : State) : Result := runB (.bDecSs p) (fun s => s.setPair p (s.pair p - 1)) s

/-- DEC XY (R397): no flag. -/
def execBDecXy (i : Index) (s : State) : Result := runB (.bDecXy i) (fun s => s.setIndex i (s.index i - 1)) s

end Sys2Proof.Machine
end

