-- ==== Sys2Proof/Machine/CpuBBlock.lean ====
section
/-! DEFINITION. CPU-B's block transfer and block search (43_cpub_load_exchange.md R341 to R348). The repeating forms do one
iteration per step (D23). -/

namespace Sys2Proof.Machine

/-- One transfer, `HL` and `DE` stepped by `step` (R341, R343). -/
def State.blockMove (s : State) (step : Word) : State :=
  let t := s.write s.de (s.read s.hl)
  let t := ((t.setHl (s.hl + step)).setDe (s.de + step)).setBc (s.bc - 1)
  t.setFlags { s.flags with h := false, n := false, pv := s.bc - 1 != 0 }

/-- One comparison, `HL` stepped by `step` (R345, R347): `A` and C are kept. -/
def State.blockCompare (s : State) (step : Word) : State :=
  let m := s.read s.hl
  let a := s.reg .a
  let t := (s.setHl (s.hl + step)).setBc (s.bc - 1)
  t.setFlags { s.flags.sz (a - m) with
    h := decide (a.toNat % 16 < m.toNat % 16), pv := s.bc - 1 != 0, n := true }

/-- The repeat test of LDIR and LDDR (R342). -/
def State.moreBytes (s : State) : Bool := s.bc != 0

/-- The repeat test of CPIR and CPDR (R346). -/
def State.moreSearch (s : State) : Bool := s.bc != 0 && !s.flags.z

/-- LDI (R341). -/
def execBLdi (s : State) : Result := runB .bLdi (fun s => s.blockMove 1) s

/-- LDIR (R342). -/
def execBLdir (s : State) : Result := repeatB .bLdir (fun s => s.blockMove 1) State.moreBytes s

/-- LDD (R343). -/
def execBLdd (s : State) : Result := runB .bLdd (fun s => s.blockMove (-1)) s

/-- LDDR (R344). -/
def execBLddr (s : State) : Result := repeatB .bLddr (fun s => s.blockMove (-1)) State.moreBytes s

/-- CPI (R345). -/
def execBCpi (s : State) : Result := runB .bCpi (fun s => s.blockCompare 1) s

/-- CPIR (R346). -/
def execBCpir (s : State) : Result := repeatB .bCpir (fun s => s.blockCompare 1) State.moreSearch s

/-- CPD (R347). -/
def execBCpd (s : State) : Result := runB .bCpd (fun s => s.blockCompare (-1)) s

/-- CPDR (R348). -/
def execBCpdr (s : State) : Result := repeatB .bCpdr (fun s => s.blockCompare (-1)) State.moreSearch s

end Sys2Proof.Machine
end

