-- ==== Sys2Proof/Machine/CpuBControl.lean ====
section
/-! DEFINITION. CPU-B's jumps, calls, returns, CPU control and unknown forms (45_cpub_control_io.md R450 to R475,
R500 to R522). No jump, call or return changes a flag (R450). -/

namespace Sys2Proof.Machine

/-- JP nn (R451). -/
def execBJp (nn : Word) (s : State) : Result := jumpB (.bJp nn) false id nn s

/-- JP cc,nn (R452): 10 cycles taken or not. -/
def execBJpCc (cc : Cond) (nn : Word) (s : State) : Result :=
  jumpB (.bJpCc cc nn) false id (if s.cond cc then nn else s.cpuB.pc + 3) s

/-- JR e (R453). -/
def execBJr (e : Byte) (s : State) : Result := jumpB (.bJr e) false id (s.cpuB.pc + 2 + sext16 e) s

/-- JR cc,e (R454). -/
def execBJrCc (cc : JrCond) (e : Byte) (s : State) : Result :=
  jumpB (.bJrCc cc e) (s.jrCond cc) id (if s.jrCond cc then s.cpuB.pc + 2 + sext16 e else s.cpuB.pc + 2) s

/-- JP (HL) (R455): no memory read. -/
def execBJpHl (s : State) : Result := jumpB .bJpHl false id s.hl s

/-- JP (XY) (R456). -/
def execBJpXy (i : Index) (s : State) : Result := jumpB (.bJpXy i) false id (s.index i) s

/-- DJNZ e (R457): no flag. -/
def execBDjnz (e : Byte) (s : State) : Result :=
  let b := s.reg .b - 1
  jumpB (.bDjnz e) (b != 0) (fun s => s.setReg .b b)
    (if b != 0 then s.cpuB.pc + 2 + sext16 e else s.cpuB.pc + 2) s

/-- CALL nn (R460): the address of the next instruction is pushed. -/
def execBCall (nn : Word) (s : State) : Result :=
  jumpB (.bCall nn) false (fun s => s.push16B (s.cpuB.pc + 3)) nn s

/-- CALL cc,nn (R461): nothing is pushed when the condition is false. -/
def execBCallCc (cc : Cond) (nn : Word) (s : State) : Result :=
  if s.cond cc then jumpB (.bCallCc cc nn) true (fun s => s.push16B (s.cpuB.pc + 3)) nn s
  else runB (.bCallCc cc nn) id s

/-- RET (R462). -/
def execBRet (s : State) : Result := jumpB .bRet false State.pop16B s.popped16B s

/-- RET cc (R463). -/
def execBRetCc (cc : Cond) (s : State) : Result :=
  if s.cond cc then jumpB (.bRetCc cc) true State.pop16B s.popped16B s else runB (.bRetCc cc) id s

/-- RETI (R464): exactly RET. -/
def execBReti (s : State) : Result := jumpB .bReti false State.pop16B s.popped16B s

/-- RETN (R465): RET, then `IFF1 <- IFF2`. -/
def execBRetn (s : State) : Result :=
  jumpB .bRetn false (fun s => { s.pop16B with cpuB := { s.pop16B.cpuB with iff1 := s.cpuB.iff2 } }) s.popped16B s

/-- RST p (R475). -/
def execBRst (t : Fin 8) (s : State) : Result :=
  jumpB (.bRst t) false (fun s => s.push16B (s.cpuB.pc + 1)) (BitVec.ofNat 16 (8 * t.val)) s

/-- NOP (R500). -/
def execBNop (s : State) : Result := runB .bNop id s

/-- HALT (R505): `PC` stays on the instruction. -/
def execBHalt (s : State) : Result := jumpB .bHalt false id s.cpuB.pc s

/-- DI (R506). -/
def execBDi (s : State) : Result :=
  runB .bDi (fun s => { s with cpuB := { s.cpuB with iff1 := false, iff2 := false } }) s

/-- EI (R507): at once. -/
def execBEi (s : State) : Result :=
  runB .bEi (fun s => { s with cpuB := { s.cpuB with iff1 := true, iff2 := true } }) s

/-- IM 0, IM 1, IM 2 (R508). -/
def execBIm (m : IntMode) (s : State) : Result :=
  runB (.bIm m) (fun s => { s with cpuB := { s.cpuB with im := m } }) s

/-- `CB 30` to `CB 37` (R417, R520). -/
def execBUnkCb (n : Fin 8) (s : State) : Result := runB (.bUnkCb n) id s

/-- `ED x`, unassigned (R520). -/
def execBUnkEd (x : Byte) (s : State) : Result := runB (.bUnkEd x) id s

/-- A lone DD or FD prefix (R520): the next byte is decoded afresh. -/
def execBUnkXy (i : Index) (s : State) : Result := runB (.bUnkXy i) id s

/-- `DD/FD CB d x`, unassigned (R520): no access. -/
def execBUnkXycb (i : Index) (d x : Byte) (s : State) : Result := runB (.bUnkXycb i d x) id s

end Sys2Proof.Machine
end

