-- ==== Sys2Proof/Machine/CpuBIo.lean ====
section
/-! DEFINITION. CPU-B's port input and output (45_cpub_control_io.md R480 to R491; port values R86). -/

namespace Sys2Proof.Machine

/-- IN A,(n) (R480): the port's high byte is the old `A`; no flag. -/
def execBInAN (n : Byte) (s : State) : Result :=
  runB (.bInAN n) (fun s => s.setReg .a (ioRead s.params (word (s.reg .a) n))) s

/-- IN r,(C) (R481): C is kept. -/
def execBInRC (r : Reg8) (s : State) : Result :=
  runB (.bInRC r) (fun s =>
    let v := ioRead s.params s.bc
    (s.setReg r v).setFlags { s.flags.szp v with h := false, n := false }) s

/-- The flags of the block input and output instructions (R482, R488): Z from the decremented `B`, N set, the rest kept
(D24). -/
def FlagSet.blockIo (fl : FlagSet) (b : Byte) : FlagSet := { fl with z := b == 0, n := true }

/-- One block input (R482, R484): the port is `BC` before `B` is decremented. -/
def State.blockIn (s : State) (step : Word) : State :=
  let b := s.reg .b - 1
  (((s.write s.hl (ioRead s.params s.bc)).setHl (s.hl + step)).setReg .b b).setFlags (s.flags.blockIo b)

/-- One block output (R488, R490): the port's high byte is the decremented `B`. -/
def State.blockOut (s : State) (step : Word) : State :=
  let b := s.reg .b - 1
  (((s.ioWrite (word b (s.reg .c)) (s.read s.hl)).setHl (s.hl + step)).setReg .b b).setFlags (s.flags.blockIo b)

/-- The repeat test of INIR, INDR, OTIR and OTDR (R483, R489). -/
def State.moreIo (s : State) : Bool := s.reg .b != 0

/-- INI (R482). -/
def execBIni (s : State) : Result := runB .bIni (fun s => s.blockIn 1) s

/-- INIR (R483). -/
def execBInir (s : State) : Result := repeatB .bInir (fun s => s.blockIn 1) State.moreIo s

/-- IND (R484). -/
def execBInd (s : State) : Result := runB .bInd (fun s => s.blockIn (-1)) s

/-- INDR (R485). -/
def execBIndr (s : State) : Result := repeatB .bIndr (fun s => s.blockIn (-1)) State.moreIo s

/-- OUT (n),A (R486). -/
def execBOutNA (n : Byte) (s : State) : Result :=
  runB (.bOutNA n) (fun s => s.ioWrite (word (s.reg .a) n) (s.reg .a)) s

/-- OUT (C),r (R487). -/
def execBOutCR (r : Reg8) (s : State) : Result := runB (.bOutCR r) (fun s => s.ioWrite s.bc (s.reg r)) s

/-- OUTI (R488). -/
def execBOuti (s : State) : Result := runB .bOuti (fun s => s.blockOut 1) s

/-- OTIR (R489). -/
def execBOtir (s : State) : Result := repeatB .bOtir (fun s => s.blockOut 1) State.moreIo s

/-- OUTD (R490). -/
def execBOutd (s : State) : Result := runB .bOutd (fun s => s.blockOut (-1)) s

/-- OTDR (R491). -/
def execBOtdr (s : State) : Result := repeatB .bOtdr (fun s => s.blockOut (-1)) State.moreIo s

end Sys2Proof.Machine
end

