-- ==== Sys2Proof/Machine/CpuBLoad.lean ====
section
/-! DEFINITION. CPU-B's loads, stack instructions and exchanges (43_cpub_load_exchange.md R300 to R340). -/

namespace Sys2Proof.Machine

/-- LD r,r' (R301). -/
def execBLdRR (r q : Reg8) (s : State) : Result := runB (.bLdRR r q) (fun s => s.setReg r (s.reg q)) s

/-- LD r,n (R302). -/
def execBLdRN (r : Reg8) (n : Byte) (s : State) : Result := runB (.bLdRN r n) (fun s => s.setReg r n) s

/-- LD r,(HL) (R303). -/
def execBLdRHl (r : Reg8) (s : State) : Result := runB (.bLdRHl r) (fun s => s.setReg r (s.read s.hl)) s

/-- LD r,(XY+d) (R304). -/
def execBLdRXy (r : Reg8) (i : Index) (d : Byte) (s : State) : Result :=
  runB (.bLdRXy r i d) (fun s => s.setReg r (s.read (s.indexed i d))) s

/-- LD (HL),r (R305). -/
def execBLdHlR (q : Reg8) (s : State) : Result := runB (.bLdHlR q) (fun s => s.write s.hl (s.reg q)) s

/-- LD (XY+d),r (R306). -/
def execBLdXyR (i : Index) (d : Byte) (q : Reg8) (s : State) : Result :=
  runB (.bLdXyR i d q) (fun s => s.write (s.indexed i d) (s.reg q)) s

/-- LD (HL),n (R307). -/
def execBLdHlN (n : Byte) (s : State) : Result := runB (.bLdHlN n) (fun s => s.write s.hl n) s

/-- LD (XY+d),n (R308). -/
def execBLdXyN (i : Index) (d n : Byte) (s : State) : Result :=
  runB (.bLdXyN i d n) (fun s => s.write (s.indexed i d) n) s

/-- LD A,(BC) (R309). -/
def execBLdABc (s : State) : Result := runB .bLdABc (fun s => s.setReg .a (s.read s.bc)) s

/-- LD A,(DE) (R310). -/
def execBLdADe (s : State) : Result := runB .bLdADe (fun s => s.setReg .a (s.read s.de)) s

/-- LD A,(nn) (R311). -/
def execBLdAMem (nn : Word) (s : State) : Result := runB (.bLdAMem nn) (fun s => s.setReg .a (s.read nn)) s

/-- LD (BC),A (R312). -/
def execBLdBcA (s : State) : Result := runB .bLdBcA (fun s => s.write s.bc (s.reg .a)) s

/-- LD (DE),A (R313). -/
def execBLdDeA (s : State) : Result := runB .bLdDeA (fun s => s.write s.de (s.reg .a)) s

/-- LD (nn),A (R314). -/
def execBLdMemA (nn : Word) (s : State) : Result := runB (.bLdMemA nn) (fun s => s.write nn (s.reg .a)) s

/-- `A <- v` with the flags of LD A,I and LD A,R (R315, R316): PV is `IFF2`, C is kept. -/
def State.loadSpecial (s : State) (v : Byte) : State :=
  (s.setReg .a v).setFlags { s.flags.sz v with h := false, n := false, pv := s.cpuB.iff2 }

/-- LD A,I (R315). -/
def execBLdAI (s : State) : Result := runB .bLdAI (fun s => s.loadSpecial s.cpuB.i) s

/-- LD A,R (R316): the value after this step's own advance (D21, log entry 13). -/
def execBLdARefresh (s : State) : Result := runB .bLdARefresh (fun s => s.loadSpecial s.cpuB.r) s

/-- LD I,A (R317). -/
def execBLdIA (s : State) : Result :=
  runB .bLdIA (fun s => { s with cpuB := { s.cpuB with i := s.cpuB.main.a } }) s

/-- LD R,A (R318): all eight bits, after this step's advance. -/
def execBLdRefreshA (s : State) : Result :=
  runB .bLdRefreshA (fun s => { s with cpuB := { s.cpuB with r := s.cpuB.main.a } }) s

/-- LD dd,nn (R320). -/
def execBLdDdNn (p : Pair) (nn : Word) (s : State) : Result := runB (.bLdDdNn p nn) (fun s => s.setPair p nn) s

/-- LD XY,nn (R321). -/
def execBLdXyNn (i : Index) (nn : Word) (s : State) : Result := runB (.bLdXyNn i nn) (fun s => s.setIndex i nn) s

/-- LD HL,(nn) (R322). -/
def execBLdHlMem (nn : Word) (s : State) : Result := runB (.bLdHlMem nn) (fun s => s.setHl (s.read16 nn)) s

/-- LD dd,(nn) (R323). -/
def execBLdDdMem (p : Pair) (nn : Word) (s : State) : Result :=
  runB (.bLdDdMem p nn) (fun s => s.setPair p (s.read16 nn)) s

/-- LD XY,(nn) (R324). -/
def execBLdXyMem (i : Index) (nn : Word) (s : State) : Result :=
  runB (.bLdXyMem i nn) (fun s => s.setIndex i (s.read16 nn)) s

/-- LD (nn),HL (R325). -/
def execBLdMemHl (nn : Word) (s : State) : Result := runB (.bLdMemHl nn) (fun s => s.write16 nn s.hl) s

/-- LD (nn),dd (R326). -/
def execBLdMemDd (nn : Word) (p : Pair) (s : State) : Result :=
  runB (.bLdMemDd nn p) (fun s => s.write16 nn (s.pair p)) s

/-- LD (nn),XY (R327). -/
def execBLdMemXy (nn : Word) (i : Index) (s : State) : Result :=
  runB (.bLdMemXy nn i) (fun s => s.write16 nn (s.index i)) s

/-- LD SP,HL (R328). -/
def execBLdSpHl (s : State) : Result := runB .bLdSpHl (fun s => s.setSp s.hl) s

/-- LD SP,XY (R329). -/
def execBLdSpXy (i : Index) (s : State) : Result := runB (.bLdSpXy i) (fun s => s.setSp (s.index i)) s

/-- PUSH qq (R330). -/
def execBPush (q : StackPair) (s : State) : Result := runB (.bPush q) (fun s => s.push16B (s.stackPair q)) s

/-- PUSH XY (R331). -/
def execBPushXy (i : Index) (s : State) : Result := runB (.bPushXy i) (fun s => s.push16B (s.index i)) s

/-- POP qq (R332). -/
def execBPop (q : StackPair) (s : State) : Result :=
  runB (.bPop q) (fun s => s.pop16B.setStackPair q s.popped16B) s

/-- POP XY (R333). -/
def execBPopXy (i : Index) (s : State) : Result := runB (.bPopXy i) (fun s => s.pop16B.setIndex i s.popped16B) s

/-- EX DE,HL (R336). -/
def execBExDeHl (s : State) : Result := runB .bExDeHl (fun s => (s.setDe s.hl).setHl s.de) s

/-- EX AF,AF' (R337). -/
def execBExAf (s : State) : Result :=
  runB .bExAf (fun s =>
    { s with cpuB := { s.cpuB with main := { s.cpuB.main with a := s.cpuB.alt.a, f := s.cpuB.alt.f },
                                   alt := { s.cpuB.alt with a := s.cpuB.main.a, f := s.cpuB.main.f } } }) s

/-- EXX (R338). -/
def execBExx (s : State) : Result :=
  runB .bExx (fun s =>
    { s with cpuB := { s.cpuB with main := { s.cpuB.alt with a := s.cpuB.main.a, f := s.cpuB.main.f },
                                   alt := { s.cpuB.main with a := s.cpuB.alt.a, f := s.cpuB.alt.f } } }) s

/-- The memory half of EX (SP),HL and EX (SP),XY (R339, R340): the high byte is written first. -/
def State.exchangeTop (s : State) (w : Word) : State :=
  (s.write (s.cpuB.sp + 1) (hiByte w)).write s.cpuB.sp (loByte w)

/-- EX (SP),HL (R339). -/
def execBExSpHl (s : State) : Result :=
  runB .bExSpHl (fun s => (s.exchangeTop s.hl).setHl (s.read16 s.cpuB.sp)) s

/-- EX (SP),XY (R340). -/
def execBExSpXy (i : Index) (s : State) : Result :=
  runB (.bExSpXy i) (fun s => (s.exchangeTop (s.index i)).setIndex i (s.read16 s.cpuB.sp)) s

end Sys2Proof.Machine
end

