-- ==== Sys2Proof/Machine/CpuBRotate.lean ====
section
/-! DEFINITION. CPU-B's rotates, shifts and bit operations (44_cpub_arith_logic.md R400 to R416). -/

namespace Sys2Proof.Machine

/-- An accumulator rotate's result (R400 to R403). -/
def State.rotateAcc (s : State) (r : Shifted) : State := (s.setReg .a r.1).setFlags (s.flags.rotatedA r.2)

/-- RLCA (R400). -/
def execBRlca (s : State) : Result :=
  runB .bRlca (fun s => s.rotateAcc (shiftLeft (s.reg .a) (bit (s.reg .a) 7))) s

/-- RLA (R401). -/
def execBRla (s : State) : Result := runB .bRla (fun s => s.rotateAcc (shiftLeft (s.reg .a) s.flags.c)) s

/-- RRCA (R402). -/
def execBRrca (s : State) : Result :=
  runB .bRrca (fun s => s.rotateAcc (shiftRight (s.reg .a) (bit (s.reg .a) 0))) s

/-- RRA (R403). -/
def execBRra (s : State) : Result := runB .bRra (fun s => s.rotateAcc (shiftRight (s.reg .a) s.flags.c)) s

/-- A CB rotate's or shift's result written back with its flags (R404). -/
def State.shiftLoc (s : State) (v : Loc8) (r : Shifted) : State := (s.setLoc8 v r.1).setFlags (s.flags.shifted r)

/-- RLC (R405). -/
def execBRlc (v : Loc8) (s : State) : Result :=
  runB (.bRlc v) (fun s => s.shiftLoc v (shiftLeft (s.loc8 v) (bit (s.loc8 v) 7))) s

/-- RRC (R406). -/
def execBRrc (v : Loc8) (s : State) : Result :=
  runB (.bRrc v) (fun s => s.shiftLoc v (shiftRight (s.loc8 v) (bit (s.loc8 v) 0))) s

/-- RL (R407). -/
def execBRl (v : Loc8) (s : State) : Result :=
  runB (.bRl v) (fun s => s.shiftLoc v (shiftLeft (s.loc8 v) s.flags.c)) s

/-- RR (R408). -/
def execBRr (v : Loc8) (s : State) : Result :=
  runB (.bRr v) (fun s => s.shiftLoc v (shiftRight (s.loc8 v) s.flags.c)) s

/-- SLA (R409). -/
def execBSla (v : Loc8) (s : State) : Result :=
  runB (.bSla v) (fun s => s.shiftLoc v (shiftLeft (s.loc8 v) false)) s

/-- SRA (R410): bit 7 is kept. -/
def execBSra (v : Loc8) (s : State) : Result :=
  runB (.bSra v) (fun s => s.shiftLoc v (shiftRight (s.loc8 v) (bit (s.loc8 v) 7))) s

/-- SRL (R411). -/
def execBSrl (v : Loc8) (s : State) : Result :=
  runB (.bSrl v) (fun s => s.shiftLoc v (shiftRight (s.loc8 v) false)) s

/-- `A` replaced with the flags of RLD and RRD (R412, R413): C is kept. -/
def State.setDigits (s : State) (a : Byte) : State :=
  (s.setReg .a a).setFlags { s.flags.szp a with h := false, n := false }

/-- RLD (R412). -/
def execBRld (s : State) : Result :=
  runB .bRld (fun s =>
    let a := s.reg .a
    let m := s.read s.hl
    (s.write s.hl ((m <<< 4) ||| (a &&& 0x0F))).setDigits ((a &&& 0xF0) ||| (m >>> 4))) s

/-- RRD (R413). -/
def execBRrd (s : State) : Result :=
  runB .bRrd (fun s =>
    let a := s.reg .a
    let m := s.read s.hl
    (s.write s.hl (((a &&& 0x0F) <<< 4) ||| (m >>> 4))).setDigits ((a &&& 0xF0) ||| (m &&& 0x0F))) s

/-- BIT b,s (R414; S and PV by D24). -/
def execBBit (b : Fin 8) (v : Loc8) (s : State) : Result :=
  runB (.bBit b v) (fun s => s.setFlags (s.flags.bitTest (s.loc8 v) b)) s

/-- SET b,s (R415). -/
def execBSet (b : Fin 8) (v : Loc8) (s : State) : Result :=
  runB (.bSet b v) (fun s => s.setLoc8 v (s.loc8 v ||| (1#8 <<< b.val))) s

/-- RES b,s (R416). -/
def execBRes (b : Fin 8) (v : Loc8) (s : State) : Result :=
  runB (.bRes b v) (fun s => s.setLoc8 v (s.loc8 v &&& ~~~(1#8 <<< b.val))) s

end Sys2Proof.Machine
end

