-- ==== Sys2Proof/Machine/Dispatch.lean ====
section
/-! DEFINITION. One arm per instruction, each one call of its meaning. -/

namespace Sys2Proof.Machine

def exec (i : Instr) (s : State) : Host.Outcome State Fault Refusal :=
  match i with
  | .aLda m => Sys2Proof.Machine.execALda m s
  | .aLdx m => Sys2Proof.Machine.execALdx m s
  | .aLdy m => Sys2Proof.Machine.execALdy m s
  | .aSta m => Sys2Proof.Machine.execASta m s
  | .aStx m => Sys2Proof.Machine.execAStx m s
  | .aSty m => Sys2Proof.Machine.execASty m s
  | .aTax => Sys2Proof.Machine.execATax s
  | .aTay => Sys2Proof.Machine.execATay s
  | .aTxa => Sys2Proof.Machine.execATxa s
  | .aTya => Sys2Proof.Machine.execATya s
  | .aTsx => Sys2Proof.Machine.execATsx s
  | .aTxs => Sys2Proof.Machine.execATxs s
  | .aPha => Sys2Proof.Machine.execAPha s
  | .aPhp => Sys2Proof.Machine.execAPhp s
  | .aPla => Sys2Proof.Machine.execAPla s
  | .aPlp => Sys2Proof.Machine.execAPlp s
  | .aAdc m => Sys2Proof.Machine.execAAdc m s
  | .aSbc m => Sys2Proof.Machine.execASbc m s
  | .aAnd m => Sys2Proof.Machine.execAAnd m s
  | .aOra m => Sys2Proof.Machine.execAOra m s
  | .aEor m => Sys2Proof.Machine.execAEor m s
  | .aCmp m => Sys2Proof.Machine.execACmp m s
  | .aCpx m => Sys2Proof.Machine.execACpx m s
  | .aCpy m => Sys2Proof.Machine.execACpy m s
  | .aBit m => Sys2Proof.Machine.execABit m s
  | .aInc m => Sys2Proof.Machine.execAInc m s
  | .aDec m => Sys2Proof.Machine.execADec m s
  | .aInx => Sys2Proof.Machine.execAInx s
  | .aIny => Sys2Proof.Machine.execAIny s
  | .aDex => Sys2Proof.Machine.execADex s
  | .aDey => Sys2Proof.Machine.execADey s
  | .aAsl t => Sys2Proof.Machine.execAAsl t s
  | .aLsr t => Sys2Proof.Machine.execALsr t s
  | .aRol t => Sys2Proof.Machine.execARol t s
  | .aRor t => Sys2Proof.Machine.execARor t s
  | .aBpl e => Sys2Proof.Machine.execABpl e s
  | .aBmi e => Sys2Proof.Machine.execABmi e s
  | .aBvc e => Sys2Proof.Machine.execABvc e s
  | .aBvs e => Sys2Proof.Machine.execABvs e s
  | .aBcc e => Sys2Proof.Machine.execABcc e s
  | .aBcs e => Sys2Proof.Machine.execABcs e s
  | .aBne e => Sys2Proof.Machine.execABne e s
  | .aBeq e => Sys2Proof.Machine.execABeq e s
  | .aJmp nn => Sys2Proof.Machine.execAJmp nn s
  | .aJmpInd ptr => Sys2Proof.Machine.execAJmpInd ptr s
  | .aJsr nn => Sys2Proof.Machine.execAJsr nn s
  | .aRts => Sys2Proof.Machine.execARts s
  | .aClc => Sys2Proof.Machine.execAClc s
  | .aSec => Sys2Proof.Machine.execASec s
  | .aCli => Sys2Proof.Machine.execACli s
  | .aSei => Sys2Proof.Machine.execASei s
  | .aClv => Sys2Proof.Machine.execAClv s
  | .aCld => Sys2Proof.Machine.execACld s
  | .aSed => Sys2Proof.Machine.execASed s
  | .aNop => Sys2Proof.Machine.execANop s
  | .aNop1 op => Sys2Proof.Machine.execANop1 op s
  | .aNop2 op n => Sys2Proof.Machine.execANop2 op n s
  | .aUnk op => Sys2Proof.Machine.execAUnk op s
  | .aBrk => Sys2Proof.Machine.execABrk s
  | .aRti => Sys2Proof.Machine.execARti s
  | .bLdRR r q => Sys2Proof.Machine.execBLdRR r q s
  | .bLdRN r n => Sys2Proof.Machine.execBLdRN r n s
  | .bLdRHl r => Sys2Proof.Machine.execBLdRHl r s
  | .bLdRXy r k d => Sys2Proof.Machine.execBLdRXy r k d s
  | .bLdHlR q => Sys2Proof.Machine.execBLdHlR q s
  | .bLdXyR k d q => Sys2Proof.Machine.execBLdXyR k d q s
  | .bLdHlN n => Sys2Proof.Machine.execBLdHlN n s
  | .bLdXyN k d n => Sys2Proof.Machine.execBLdXyN k d n s
  | .bLdABc => Sys2Proof.Machine.execBLdABc s
  | .bLdADe => Sys2Proof.Machine.execBLdADe s
  | .bLdAMem nn => Sys2Proof.Machine.execBLdAMem nn s
  | .bLdBcA => Sys2Proof.Machine.execBLdBcA s
  | .bLdDeA => Sys2Proof.Machine.execBLdDeA s
  | .bLdMemA nn => Sys2Proof.Machine.execBLdMemA nn s
  | .bLdAI => Sys2Proof.Machine.execBLdAI s
  | .bLdARefresh => Sys2Proof.Machine.execBLdARefresh s
  | .bLdIA => Sys2Proof.Machine.execBLdIA s
  | .bLdRefreshA => Sys2Proof.Machine.execBLdRefreshA s
  | .bLdDdNn p nn => Sys2Proof.Machine.execBLdDdNn p nn s
  | .bLdXyNn k nn => Sys2Proof.Machine.execBLdXyNn k nn s
  | .bLdHlMem nn => Sys2Proof.Machine.execBLdHlMem nn s
  | .bLdDdMem p nn => Sys2Proof.Machine.execBLdDdMem p nn s
  | .bLdXyMem k nn => Sys2Proof.Machine.execBLdXyMem k nn s
  | .bLdMemHl nn => Sys2Proof.Machine.execBLdMemHl nn s
  | .bLdMemDd nn p => Sys2Proof.Machine.execBLdMemDd nn p s
  | .bLdMemXy nn k => Sys2Proof.Machine.execBLdMemXy nn k s
  | .bLdSpHl => Sys2Proof.Machine.execBLdSpHl s
  | .bLdSpXy k => Sys2Proof.Machine.execBLdSpXy k s
  | .bPush q => Sys2Proof.Machine.execBPush q s
  | .bPushXy k => Sys2Proof.Machine.execBPushXy k s
  | .bPop q => Sys2Proof.Machine.execBPop q s
  | .bPopXy k => Sys2Proof.Machine.execBPopXy k s
  | .bExDeHl => Sys2Proof.Machine.execBExDeHl s
  | .bExAf => Sys2Proof.Machine.execBExAf s
  | .bExx => Sys2Proof.Machine.execBExx s
  | .bExSpHl => Sys2Proof.Machine.execBExSpHl s
  | .bExSpXy k => Sys2Proof.Machine.execBExSpXy k s
  | .bLdi => Sys2Proof.Machine.execBLdi s
  | .bLdir => Sys2Proof.Machine.execBLdir s
  | .bLdd => Sys2Proof.Machine.execBLdd s
  | .bLddr => Sys2Proof.Machine.execBLddr s
  | .bCpi => Sys2Proof.Machine.execBCpi s
  | .bCpir => Sys2Proof.Machine.execBCpir s
  | .bCpd => Sys2Proof.Machine.execBCpd s
  | .bCpdr => Sys2Proof.Machine.execBCpdr s
  | .bAdd m => Sys2Proof.Machine.execBAdd m s
  | .bAdc m => Sys2Proof.Machine.execBAdc m s
  | .bSub m => Sys2Proof.Machine.execBSub m s
  | .bSbc m => Sys2Proof.Machine.execBSbc m s
  | .bAnd m => Sys2Proof.Machine.execBAnd m s
  | .bXor m => Sys2Proof.Machine.execBXor m s
  | .bOr m => Sys2Proof.Machine.execBOr m s
  | .bCp m => Sys2Proof.Machine.execBCp m s
  | .bInc v => Sys2Proof.Machine.execBInc v s
  | .bDec v => Sys2Proof.Machine.execBDec v s
  | .bDaa => Sys2Proof.Machine.execBDaa s
  | .bCpl => Sys2Proof.Machine.execBCpl s
  | .bNeg => Sys2Proof.Machine.execBNeg s
  | .bCcf => Sys2Proof.Machine.execBCcf s
  | .bScf => Sys2Proof.Machine.execBScf s
  | .bAddHl p => Sys2Proof.Machine.execBAddHl p s
  | .bAdcHl p => Sys2Proof.Machine.execBAdcHl p s
  | .bSbcHl p => Sys2Proof.Machine.execBSbcHl p s
  | .bAddXy k p => Sys2Proof.Machine.execBAddXy k p s
  | .bIncSs p => Sys2Proof.Machine.execBIncSs p s
  | .bIncXy k => Sys2Proof.Machine.execBIncXy k s
  | .bDecSs p => Sys2Proof.Machine.execBDecSs p s
  | .bDecXy k => Sys2Proof.Machine.execBDecXy k s
  | .bRlca => Sys2Proof.Machine.execBRlca s
  | .bRla => Sys2Proof.Machine.execBRla s
  | .bRrca => Sys2Proof.Machine.execBRrca s
  | .bRra => Sys2Proof.Machine.execBRra s
  | .bRlc v => Sys2Proof.Machine.execBRlc v s
  | .bRrc v => Sys2Proof.Machine.execBRrc v s
  | .bRl v => Sys2Proof.Machine.execBRl v s
  | .bRr v => Sys2Proof.Machine.execBRr v s
  | .bSla v => Sys2Proof.Machine.execBSla v s
  | .bSra v => Sys2Proof.Machine.execBSra v s
  | .bSrl v => Sys2Proof.Machine.execBSrl v s
  | .bRld => Sys2Proof.Machine.execBRld s
  | .bRrd => Sys2Proof.Machine.execBRrd s
  | .bBit b v => Sys2Proof.Machine.execBBit b v s
  | .bSet b v => Sys2Proof.Machine.execBSet b v s
  | .bRes b v => Sys2Proof.Machine.execBRes b v s
  | .bJp nn => Sys2Proof.Machine.execBJp nn s
  | .bJpCc cc nn => Sys2Proof.Machine.execBJpCc cc nn s
  | .bJr e => Sys2Proof.Machine.execBJr e s
  | .bJrCc cc e => Sys2Proof.Machine.execBJrCc cc e s
  | .bJpHl => Sys2Proof.Machine.execBJpHl s
  | .bJpXy k => Sys2Proof.Machine.execBJpXy k s
  | .bDjnz e => Sys2Proof.Machine.execBDjnz e s
  | .bCall nn => Sys2Proof.Machine.execBCall nn s
  | .bCallCc cc nn => Sys2Proof.Machine.execBCallCc cc nn s
  | .bRet => Sys2Proof.Machine.execBRet s
  | .bRetCc cc => Sys2Proof.Machine.execBRetCc cc s
  | .bReti => Sys2Proof.Machine.execBReti s
  | .bRetn => Sys2Proof.Machine.execBRetn s
  | .bRst t => Sys2Proof.Machine.execBRst t s
  | .bInAN n => Sys2Proof.Machine.execBInAN n s
  | .bInRC r => Sys2Proof.Machine.execBInRC r s
  | .bIni => Sys2Proof.Machine.execBIni s
  | .bInir => Sys2Proof.Machine.execBInir s
  | .bInd => Sys2Proof.Machine.execBInd s
  | .bIndr => Sys2Proof.Machine.execBIndr s
  | .bOutNA n => Sys2Proof.Machine.execBOutNA n s
  | .bOutCR r => Sys2Proof.Machine.execBOutCR r s
  | .bOuti => Sys2Proof.Machine.execBOuti s
  | .bOtir => Sys2Proof.Machine.execBOtir s
  | .bOutd => Sys2Proof.Machine.execBOutd s
  | .bOtdr => Sys2Proof.Machine.execBOtdr s
  | .bNop => Sys2Proof.Machine.execBNop s
  | .bHalt => Sys2Proof.Machine.execBHalt s
  | .bDi => Sys2Proof.Machine.execBDi s
  | .bEi => Sys2Proof.Machine.execBEi s
  | .bIm m => Sys2Proof.Machine.execBIm m s
  | .bUnkCb q => Sys2Proof.Machine.execBUnkCb q s
  | .bUnkEd x => Sys2Proof.Machine.execBUnkEd x s
  | .bUnkXy k => Sys2Proof.Machine.execBUnkXy k s
  | .bUnkXycb k d x => Sys2Proof.Machine.execBUnkXycb k d x s

end Sys2Proof.Machine
end

