-- ==== Sys2Proof/Machine/Fetch.lean ====
section
/-! DEFINITION. The instruction fetch (30_encoding.md R100, R101; 20_memory.md R93) and the placing of a table word where
the next fetch reads it. -/

namespace Sys2Proof.Machine

/-- The instruction at `PC`: ordinary reads of `MEM`, all of them before any write of the instruction; addresses wrap
(R101). Reads have no side effect, so reading four bytes for a shorter instruction changes nothing. -/
def State.fetch (s : State) : Instr :=
  decode s.params.cpu (s.read s.pc) (s.read (s.pc + 1)) (s.read (s.pc + 2)) (s.read (s.pc + 3))

/-- The state with the session's CPU chosen. -/
def State.withCpu (s : State) (c : CpuKind) : State := { s with params := { s.params with cpu := c } }

/-- The four bytes of a table word, lowest address first (log entry 3). -/
def tableWordBytes (nbits w : Nat) : List Byte :=
  let n := tableBytes nbits w
  [tableByte n w 0, tableByte n w 1, tableByte n w 2, tableByte n w 3]

/-- The state with the word's CPU chosen and the word's bytes at its `PC`, placed as by `loadBlock` (R75). -/
def State.placeWord (s : State) (nbits w : Nat) : State :=
  (s.withCpu (tableCpu w)).loadBlock (s.withCpu (tableCpu w)).pc (tableWordBytes nbits w)

end Sys2Proof.Machine
end

