-- ==== Sys2Proof/Machine/Step.lean ====
section
/-! DEFINITION. One step (70_reset_and_hazards.md R613): fetch, decode, execute. -/

namespace Sys2Proof.Machine

/-- `step()` (R613): exactly one instruction of the session's CPU. The returned cycle count is `cycles` of the next
state (log entry 8). -/
def step (s : State) : Host.Outcome State Fault Refusal := exec s.fetch s

/-- `s` with the instruction of a table word stored where `step` fetches next, and the session's CPU set to the word's
(log entries 2 and 3). -/
def State.withFetchWord (s : State) (nbits w : Nat) : State := s.placeWord nbits w

end Sys2Proof.Machine
end

