-- ==== Sys2Proof/Laws/Memory.lean ====
section
/-! SUPPORT. The laws of memory: read after write, and that a write keeps the canonical form. -/

namespace Sys2Proof.Machine

theorem Memory.get_erase_self (m : List Host.Cell) (a : Nat) : Memory.get (Memory.erase m a) a = Memory.unlisted := by
  induction m with
  | nil => rfl
  | cons c m ih =>
    by_cases h : c.1 = a
    · simpa [Memory.erase, h] using ih
    · simpa [Memory.erase, h, Memory.get] using ih

theorem Memory.get_erase_other (m : List Host.Cell) (a b : Nat) (h : b ≠ a) :
    Memory.get (Memory.erase m a) b = Memory.get m b := by
  induction m with
  | nil => rfl
  | cons c m ih =>
    by_cases hc : c.1 = a
    · have hb : ¬ c.1 = b := fun e => h (e.symm.trans hc)
      have ih' := ih
      simp only [Memory.erase] at ih'
      simp [Memory.erase, hc, Memory.get, ← ih', Ne.symm h]
    · have ih' := ih
      simp only [Memory.erase] at ih'
      simp [Memory.erase, hc, Memory.get, ih']

theorem Memory.get_insert_other (m : List Host.Cell) (a b : Nat) (v : Byte) (h : b ≠ a) :
    Memory.get (Memory.insert a v m) b = Memory.get m b := by
  induction m with
  | nil => simp [Memory.insert, Memory.get, Ne.symm h]
  | cons c m ih =>
    by_cases hc : a < c.1
    · simp [Memory.insert, hc, Memory.get, Ne.symm h]
    · simp [Memory.insert, hc, Memory.get, ih]

theorem Memory.get_insert_self (m : List Host.Cell) (a : Nat) (v : Byte) (h : ∀ c ∈ m, c.1 ≠ a) :
    Memory.get (Memory.insert a v m) a = v := by
  induction m with
  | nil => simp [Memory.insert, Memory.get]
  | cons c m ih =>
    have hc := h c (by simp)
    by_cases hl : a < c.1
    · simp [Memory.insert, hl, Memory.get]
    · simp [Memory.insert, hl, Memory.get, hc, ih (fun d hd => h d (by simp [hd]))]

theorem Memory.not_mem_erase (m : List Host.Cell) (a : Nat) : ∀ c ∈ Memory.erase m a, c.1 ≠ a := by
  intro c hc
  simpa using (List.mem_filter.mp hc).2

/-- A read of the address just written gives the value written. -/
theorem Memory.get_set_self (m : List Host.Cell) (a : Nat) (v : Byte) : Memory.get (Memory.set m a v) a = v := by
  unfold Memory.set
  split
  · next h => rw [h, Memory.get_erase_self]
  · exact Memory.get_insert_self _ _ _ (Memory.not_mem_erase m a)

/-- A write leaves every other address alone. -/
theorem Memory.get_set_other (m : List Host.Cell) (a b : Nat) (v : Byte) (h : b ≠ a) :
    Memory.get (Memory.set m a v) b = Memory.get m b := by
  unfold Memory.set
  split
  · exact Memory.get_erase_other m a b h
  · rw [Memory.get_insert_other _ _ _ _ h, Memory.get_erase_other m a b h]

/-- The canonical form, as a proposition. -/
theorem Memory.wf_iff (m : List Host.Cell) :
    Memory.wf m = true ↔
      m.Pairwise (fun c d => c.1 < d.1) ∧ ∀ c ∈ m, c.1 < 65536 ∧ c.2 ≠ Memory.unlisted := by
  simp [Memory.wf]

theorem Memory.mem_insert (m : List Host.Cell) (a : Nat) (v : Byte) (c : Host.Cell) :
    c ∈ Memory.insert a v m → c = (a, v) ∨ c ∈ m := by
  induction m with
  | nil => simp [Memory.insert]
  | cons d m ih =>
    by_cases hl : a < d.1
    · simp [Memory.insert, hl]
    · simp only [Memory.insert, hl, if_false, List.mem_cons]
      rintro (h | h)
      · exact .inr (.inl h)
      · exact (ih h).imp id .inr

theorem Memory.pairwise_insert (m : List Host.Cell) (a : Nat) (v : Byte) (h : ∀ c ∈ m, c.1 ≠ a)
    (hp : m.Pairwise (fun c d => c.1 < d.1)) : (Memory.insert a v m).Pairwise (fun c d => c.1 < d.1) := by
  induction m with
  | nil => simp [Memory.insert]
  | cons d m ih =>
    have hd := h d (by simp)
    obtain ⟨h1, h2⟩ := List.pairwise_cons.mp hp
    by_cases hl : a < d.1
    · simp only [Memory.insert, hl, if_true]
      refine List.pairwise_cons.mpr ⟨?_, hp⟩
      intro c hc
      rcases List.mem_cons.mp hc with rfl | hc
      · exact hl
      · exact lt_trans hl (h1 c hc)
    · simp only [Memory.insert, hl, if_false]
      refine List.pairwise_cons.mpr ⟨?_, ih (fun c hc => h c (by simp [hc])) h2⟩
      intro c hc
      rcases Memory.mem_insert m a v c hc with rfl | hc
      · simp only; omega
      · exact h1 c hc

/-- A write keeps the canonical form. -/
theorem Memory.wf_set (m : List Host.Cell) (a : Nat) (v : Byte) (ha : a < 65536) (h : Memory.wf m = true) :
    Memory.wf (Memory.set m a v) = true := by
  obtain ⟨hp, hm⟩ := (Memory.wf_iff m).mp h
  have he : (Memory.erase m a).Pairwise (fun c d => c.1 < d.1) := hp.filter _
  have hem : ∀ c ∈ Memory.erase m a, c ∈ m := fun c hc => (List.mem_filter.mp hc).1
  rw [Memory.wf_iff]
  unfold Memory.set
  split
  · exact ⟨he, fun c hc => hm c (hem c hc)⟩
  · next hv =>
    refine ⟨Memory.pairwise_insert _ _ _ (Memory.not_mem_erase m a) he, fun c hc => ?_⟩
    rcases Memory.mem_insert _ _ _ _ hc with rfl | hc
    · exact ⟨ha, hv⟩
    · exact hm c (hem c hc)

end Sys2Proof.Machine
end

