-- ==== Sys2Proof/Laws/State.lean ====
section
/-! SUPPORT. One lemma per field per update of the state, each true by unfolding. -/

namespace Sys2Proof.Machine

@[simp] theorem State.setA_params (s : State) (v : Byte) : (s.setA v).params = s.params := rfl
@[simp] theorem State.setA_cpuB (s : State) (v : Byte) : (s.setA v).cpuB = s.cpuB := rfl
@[simp] theorem State.setA_mem (s : State) (v : Byte) : (s.setA v).mem = s.mem := rfl
@[simp] theorem State.setA_shadow (s : State) (v : Byte) : (s.setA v).shadow = s.shadow := rfl
@[simp] theorem State.setA_aySel (s : State) (v : Byte) : (s.setA v).aySel = s.aySel := rfl
@[simp] theorem State.setA_cycles (s : State) (v : Byte) : (s.setA v).cycles = s.cycles := rfl
@[simp] theorem State.setA_cpuA_a (s : State) (v : Byte) : (s.setA v).cpuA.a = v := rfl
@[simp] theorem State.setA_cpuA_x (s : State) (v : Byte) : (s.setA v).cpuA.x = s.cpuA.x := rfl
@[simp] theorem State.setA_cpuA_y (s : State) (v : Byte) : (s.setA v).cpuA.y = s.cpuA.y := rfl
@[simp] theorem State.setA_cpuA_s (s : State) (v : Byte) : (s.setA v).cpuA.s = s.cpuA.s := rfl
@[simp] theorem State.setA_cpuA_pc (s : State) (v : Byte) : (s.setA v).cpuA.pc = s.cpuA.pc := rfl
@[simp] theorem State.setA_cpuA_p (s : State) (v : Byte) : (s.setA v).cpuA.p = s.cpuA.p := rfl

@[simp] theorem State.setX_params (s : State) (v : Byte) : (s.setX v).params = s.params := rfl
@[simp] theorem State.setX_cpuB (s : State) (v : Byte) : (s.setX v).cpuB = s.cpuB := rfl
@[simp] theorem State.setX_mem (s : State) (v : Byte) : (s.setX v).mem = s.mem := rfl
@[simp] theorem State.setX_shadow (s : State) (v : Byte) : (s.setX v).shadow = s.shadow := rfl
@[simp] theorem State.setX_aySel (s : State) (v : Byte) : (s.setX v).aySel = s.aySel := rfl
@[simp] theorem State.setX_cycles (s : State) (v : Byte) : (s.setX v).cycles = s.cycles := rfl
@[simp] theorem State.setX_cpuA_a (s : State) (v : Byte) : (s.setX v).cpuA.a = s.cpuA.a := rfl
@[simp] theorem State.setX_cpuA_x (s : State) (v : Byte) : (s.setX v).cpuA.x = v := rfl
@[simp] theorem State.setX_cpuA_y (s : State) (v : Byte) : (s.setX v).cpuA.y = s.cpuA.y := rfl
@[simp] theorem State.setX_cpuA_s (s : State) (v : Byte) : (s.setX v).cpuA.s = s.cpuA.s := rfl
@[simp] theorem State.setX_cpuA_pc (s : State) (v : Byte) : (s.setX v).cpuA.pc = s.cpuA.pc := rfl
@[simp] theorem State.setX_cpuA_p (s : State) (v : Byte) : (s.setX v).cpuA.p = s.cpuA.p := rfl

@[simp] theorem State.setY_params (s : State) (v : Byte) : (s.setY v).params = s.params := rfl
@[simp] theorem State.setY_cpuB (s : State) (v : Byte) : (s.setY v).cpuB = s.cpuB := rfl
@[simp] theorem State.setY_mem (s : State) (v : Byte) : (s.setY v).mem = s.mem := rfl
@[simp] theorem State.setY_shadow (s : State) (v : Byte) : (s.setY v).shadow = s.shadow := rfl
@[simp] theorem State.setY_aySel (s : State) (v : Byte) : (s.setY v).aySel = s.aySel := rfl
@[simp] theorem State.setY_cycles (s : State) (v : Byte) : (s.setY v).cycles = s.cycles := rfl
@[simp] theorem State.setY_cpuA_a (s : State) (v : Byte) : (s.setY v).cpuA.a = s.cpuA.a := rfl
@[simp] theorem State.setY_cpuA_x (s : State) (v : Byte) : (s.setY v).cpuA.x = s.cpuA.x := rfl
@[simp] theorem State.setY_cpuA_y (s : State) (v : Byte) : (s.setY v).cpuA.y = v := rfl
@[simp] theorem State.setY_cpuA_s (s : State) (v : Byte) : (s.setY v).cpuA.s = s.cpuA.s := rfl
@[simp] theorem State.setY_cpuA_pc (s : State) (v : Byte) : (s.setY v).cpuA.pc = s.cpuA.pc := rfl
@[simp] theorem State.setY_cpuA_p (s : State) (v : Byte) : (s.setY v).cpuA.p = s.cpuA.p := rfl

@[simp] theorem State.setS_params (s : State) (v : Byte) : (s.setS v).params = s.params := rfl
@[simp] theorem State.setS_cpuB (s : State) (v : Byte) : (s.setS v).cpuB = s.cpuB := rfl
@[simp] theorem State.setS_mem (s : State) (v : Byte) : (s.setS v).mem = s.mem := rfl
@[simp] theorem State.setS_shadow (s : State) (v : Byte) : (s.setS v).shadow = s.shadow := rfl
@[simp] theorem State.setS_aySel (s : State) (v : Byte) : (s.setS v).aySel = s.aySel := rfl
@[simp] theorem State.setS_cycles (s : State) (v : Byte) : (s.setS v).cycles = s.cycles := rfl
@[simp] theorem State.setS_cpuA_a (s : State) (v : Byte) : (s.setS v).cpuA.a = s.cpuA.a := rfl
@[simp] theorem State.setS_cpuA_x (s : State) (v : Byte) : (s.setS v).cpuA.x = s.cpuA.x := rfl
@[simp] theorem State.setS_cpuA_y (s : State) (v : Byte) : (s.setS v).cpuA.y = s.cpuA.y := rfl
@[simp] theorem State.setS_cpuA_s (s : State) (v : Byte) : (s.setS v).cpuA.s = v := rfl
@[simp] theorem State.setS_cpuA_pc (s : State) (v : Byte) : (s.setS v).cpuA.pc = s.cpuA.pc := rfl
@[simp] theorem State.setS_cpuA_p (s : State) (v : Byte) : (s.setS v).cpuA.p = s.cpuA.p := rfl

@[simp] theorem State.setPcA_params (s : State) (w : Word) : (s.setPcA w).params = s.params := rfl
@[simp] theorem State.setPcA_cpuB (s : State) (w : Word) : (s.setPcA w).cpuB = s.cpuB := rfl
@[simp] theorem State.setPcA_mem (s : State) (w : Word) : (s.setPcA w).mem = s.mem := rfl
@[simp] theorem State.setPcA_shadow (s : State) (w : Word) : (s.setPcA w).shadow = s.shadow := rfl
@[simp] theorem State.setPcA_aySel (s : State) (w : Word) : (s.setPcA w).aySel = s.aySel := rfl
@[simp] theorem State.setPcA_cycles (s : State) (w : Word) : (s.setPcA w).cycles = s.cycles := rfl
@[simp] theorem State.setPcA_cpuA_a (s : State) (w : Word) : (s.setPcA w).cpuA.a = s.cpuA.a := rfl
@[simp] theorem State.setPcA_cpuA_x (s : State) (w : Word) : (s.setPcA w).cpuA.x = s.cpuA.x := rfl
@[simp] theorem State.setPcA_cpuA_y (s : State) (w : Word) : (s.setPcA w).cpuA.y = s.cpuA.y := rfl
@[simp] theorem State.setPcA_cpuA_s (s : State) (w : Word) : (s.setPcA w).cpuA.s = s.cpuA.s := rfl
@[simp] theorem State.setPcA_cpuA_pc (s : State) (w : Word) : (s.setPcA w).cpuA.pc = w := rfl
@[simp] theorem State.setPcA_cpuA_p (s : State) (w : Word) : (s.setPcA w).cpuA.p = s.cpuA.p := rfl

@[simp] theorem State.setP_params (s : State) (p : PFlags) : (s.setP p).params = s.params := rfl
@[simp] theorem State.setP_cpuB (s : State) (p : PFlags) : (s.setP p).cpuB = s.cpuB := rfl
@[simp] theorem State.setP_mem (s : State) (p : PFlags) : (s.setP p).mem = s.mem := rfl
@[simp] theorem State.setP_shadow (s : State) (p : PFlags) : (s.setP p).shadow = s.shadow := rfl
@[simp] theorem State.setP_aySel (s : State) (p : PFlags) : (s.setP p).aySel = s.aySel := rfl
@[simp] theorem State.setP_cycles (s : State) (p : PFlags) : (s.setP p).cycles = s.cycles := rfl
@[simp] theorem State.setP_cpuA_a (s : State) (p : PFlags) : (s.setP p).cpuA.a = s.cpuA.a := rfl
@[simp] theorem State.setP_cpuA_x (s : State) (p : PFlags) : (s.setP p).cpuA.x = s.cpuA.x := rfl
@[simp] theorem State.setP_cpuA_y (s : State) (p : PFlags) : (s.setP p).cpuA.y = s.cpuA.y := rfl
@[simp] theorem State.setP_cpuA_s (s : State) (p : PFlags) : (s.setP p).cpuA.s = s.cpuA.s := rfl
@[simp] theorem State.setP_cpuA_pc (s : State) (p : PFlags) : (s.setP p).cpuA.pc = s.cpuA.pc := rfl
@[simp] theorem State.setP_cpuA_p (s : State) (p : PFlags) : (s.setP p).cpuA.p = p := rfl

@[simp] theorem State.setMain_params (s : State) (m : Bank) : (s.setMain m).params = s.params := rfl
@[simp] theorem State.setMain_cpuA (s : State) (m : Bank) : (s.setMain m).cpuA = s.cpuA := rfl
@[simp] theorem State.setMain_mem (s : State) (m : Bank) : (s.setMain m).mem = s.mem := rfl
@[simp] theorem State.setMain_shadow (s : State) (m : Bank) : (s.setMain m).shadow = s.shadow := rfl
@[simp] theorem State.setMain_aySel (s : State) (m : Bank) : (s.setMain m).aySel = s.aySel := rfl
@[simp] theorem State.setMain_cycles (s : State) (m : Bank) : (s.setMain m).cycles = s.cycles := rfl
@[simp] theorem State.setMain_cpuB_main (s : State) (m : Bank) : (s.setMain m).cpuB.main = m := rfl
@[simp] theorem State.setMain_cpuB_alt (s : State) (m : Bank) : (s.setMain m).cpuB.alt = s.cpuB.alt := rfl
@[simp] theorem State.setMain_cpuB_ix (s : State) (m : Bank) : (s.setMain m).cpuB.ix = s.cpuB.ix := rfl
@[simp] theorem State.setMain_cpuB_iy (s : State) (m : Bank) : (s.setMain m).cpuB.iy = s.cpuB.iy := rfl
@[simp] theorem State.setMain_cpuB_sp (s : State) (m : Bank) : (s.setMain m).cpuB.sp = s.cpuB.sp := rfl
@[simp] theorem State.setMain_cpuB_pc (s : State) (m : Bank) : (s.setMain m).cpuB.pc = s.cpuB.pc := rfl
@[simp] theorem State.setMain_cpuB_i (s : State) (m : Bank) : (s.setMain m).cpuB.i = s.cpuB.i := rfl
@[simp] theorem State.setMain_cpuB_r (s : State) (m : Bank) : (s.setMain m).cpuB.r = s.cpuB.r := rfl
@[simp] theorem State.setMain_cpuB_iff1 (s : State) (m : Bank) : (s.setMain m).cpuB.iff1 = s.cpuB.iff1 := rfl
@[simp] theorem State.setMain_cpuB_iff2 (s : State) (m : Bank) : (s.setMain m).cpuB.iff2 = s.cpuB.iff2 := rfl
@[simp] theorem State.setMain_cpuB_im (s : State) (m : Bank) : (s.setMain m).cpuB.im = s.cpuB.im := rfl

@[simp] theorem State.setSp_params (s : State) (w : Word) : (s.setSp w).params = s.params := rfl
@[simp] theorem State.setSp_cpuA (s : State) (w : Word) : (s.setSp w).cpuA = s.cpuA := rfl
@[simp] theorem State.setSp_mem (s : State) (w : Word) : (s.setSp w).mem = s.mem := rfl
@[simp] theorem State.setSp_shadow (s : State) (w : Word) : (s.setSp w).shadow = s.shadow := rfl
@[simp] theorem State.setSp_aySel (s : State) (w : Word) : (s.setSp w).aySel = s.aySel := rfl
@[simp] theorem State.setSp_cycles (s : State) (w : Word) : (s.setSp w).cycles = s.cycles := rfl
@[simp] theorem State.setSp_cpuB_main (s : State) (w : Word) : (s.setSp w).cpuB.main = s.cpuB.main := rfl
@[simp] theorem State.setSp_cpuB_alt (s : State) (w : Word) : (s.setSp w).cpuB.alt = s.cpuB.alt := rfl
@[simp] theorem State.setSp_cpuB_ix (s : State) (w : Word) : (s.setSp w).cpuB.ix = s.cpuB.ix := rfl
@[simp] theorem State.setSp_cpuB_iy (s : State) (w : Word) : (s.setSp w).cpuB.iy = s.cpuB.iy := rfl
@[simp] theorem State.setSp_cpuB_sp (s : State) (w : Word) : (s.setSp w).cpuB.sp = w := rfl
@[simp] theorem State.setSp_cpuB_pc (s : State) (w : Word) : (s.setSp w).cpuB.pc = s.cpuB.pc := rfl
@[simp] theorem State.setSp_cpuB_i (s : State) (w : Word) : (s.setSp w).cpuB.i = s.cpuB.i := rfl
@[simp] theorem State.setSp_cpuB_r (s : State) (w : Word) : (s.setSp w).cpuB.r = s.cpuB.r := rfl
@[simp] theorem State.setSp_cpuB_iff1 (s : State) (w : Word) : (s.setSp w).cpuB.iff1 = s.cpuB.iff1 := rfl
@[simp] theorem State.setSp_cpuB_iff2 (s : State) (w : Word) : (s.setSp w).cpuB.iff2 = s.cpuB.iff2 := rfl
@[simp] theorem State.setSp_cpuB_im (s : State) (w : Word) : (s.setSp w).cpuB.im = s.cpuB.im := rfl

@[simp] theorem State.setPcB_params (s : State) (w : Word) : (s.setPcB w).params = s.params := rfl
@[simp] theorem State.setPcB_cpuA (s : State) (w : Word) : (s.setPcB w).cpuA = s.cpuA := rfl
@[simp] theorem State.setPcB_mem (s : State) (w : Word) : (s.setPcB w).mem = s.mem := rfl
@[simp] theorem State.setPcB_shadow (s : State) (w : Word) : (s.setPcB w).shadow = s.shadow := rfl
@[simp] theorem State.setPcB_aySel (s : State) (w : Word) : (s.setPcB w).aySel = s.aySel := rfl
@[simp] theorem State.setPcB_cycles (s : State) (w : Word) : (s.setPcB w).cycles = s.cycles := rfl
@[simp] theorem State.setPcB_cpuB_main (s : State) (w : Word) : (s.setPcB w).cpuB.main = s.cpuB.main := rfl
@[simp] theorem State.setPcB_cpuB_alt (s : State) (w : Word) : (s.setPcB w).cpuB.alt = s.cpuB.alt := rfl
@[simp] theorem State.setPcB_cpuB_ix (s : State) (w : Word) : (s.setPcB w).cpuB.ix = s.cpuB.ix := rfl
@[simp] theorem State.setPcB_cpuB_iy (s : State) (w : Word) : (s.setPcB w).cpuB.iy = s.cpuB.iy := rfl
@[simp] theorem State.setPcB_cpuB_sp (s : State) (w : Word) : (s.setPcB w).cpuB.sp = s.cpuB.sp := rfl
@[simp] theorem State.setPcB_cpuB_pc (s : State) (w : Word) : (s.setPcB w).cpuB.pc = w := rfl
@[simp] theorem State.setPcB_cpuB_i (s : State) (w : Word) : (s.setPcB w).cpuB.i = s.cpuB.i := rfl
@[simp] theorem State.setPcB_cpuB_r (s : State) (w : Word) : (s.setPcB w).cpuB.r = s.cpuB.r := rfl
@[simp] theorem State.setPcB_cpuB_iff1 (s : State) (w : Word) : (s.setPcB w).cpuB.iff1 = s.cpuB.iff1 := rfl
@[simp] theorem State.setPcB_cpuB_iff2 (s : State) (w : Word) : (s.setPcB w).cpuB.iff2 = s.cpuB.iff2 := rfl
@[simp] theorem State.setPcB_cpuB_im (s : State) (w : Word) : (s.setPcB w).cpuB.im = s.cpuB.im := rfl

@[simp] theorem State.advanceR_params (s : State) (n : Nat) : (s.advanceR n).params = s.params := rfl
@[simp] theorem State.advanceR_cpuA (s : State) (n : Nat) : (s.advanceR n).cpuA = s.cpuA := rfl
@[simp] theorem State.advanceR_mem (s : State) (n : Nat) : (s.advanceR n).mem = s.mem := rfl
@[simp] theorem State.advanceR_shadow (s : State) (n : Nat) : (s.advanceR n).shadow = s.shadow := rfl
@[simp] theorem State.advanceR_aySel (s : State) (n : Nat) : (s.advanceR n).aySel = s.aySel := rfl
@[simp] theorem State.advanceR_cycles (s : State) (n : Nat) : (s.advanceR n).cycles = s.cycles := rfl
@[simp] theorem State.advanceR_cpuB_main (s : State) (n : Nat) : (s.advanceR n).cpuB.main = s.cpuB.main := rfl
@[simp] theorem State.advanceR_cpuB_alt (s : State) (n : Nat) : (s.advanceR n).cpuB.alt = s.cpuB.alt := rfl
@[simp] theorem State.advanceR_cpuB_ix (s : State) (n : Nat) : (s.advanceR n).cpuB.ix = s.cpuB.ix := rfl
@[simp] theorem State.advanceR_cpuB_iy (s : State) (n : Nat) : (s.advanceR n).cpuB.iy = s.cpuB.iy := rfl
@[simp] theorem State.advanceR_cpuB_sp (s : State) (n : Nat) : (s.advanceR n).cpuB.sp = s.cpuB.sp := rfl
@[simp] theorem State.advanceR_cpuB_pc (s : State) (n : Nat) : (s.advanceR n).cpuB.pc = s.cpuB.pc := rfl
@[simp] theorem State.advanceR_cpuB_i (s : State) (n : Nat) : (s.advanceR n).cpuB.i = s.cpuB.i := rfl
@[simp] theorem State.advanceR_cpuB_r (s : State) (n : Nat) : (s.advanceR n).cpuB.r = (s.cpuB.r &&& 0x80) ||| ((s.cpuB.r + BitVec.ofNat 8 n) &&& 0x7F) := rfl
@[simp] theorem State.advanceR_cpuB_iff1 (s : State) (n : Nat) : (s.advanceR n).cpuB.iff1 = s.cpuB.iff1 := rfl
@[simp] theorem State.advanceR_cpuB_iff2 (s : State) (n : Nat) : (s.advanceR n).cpuB.iff2 = s.cpuB.iff2 := rfl
@[simp] theorem State.advanceR_cpuB_im (s : State) (n : Nat) : (s.advanceR n).cpuB.im = s.cpuB.im := rfl

@[simp] theorem State.store_params (s : State) (a : Word) (v : Byte) : (s.store a v).params = s.params := rfl
@[simp] theorem State.store_cpuA (s : State) (a : Word) (v : Byte) : (s.store a v).cpuA = s.cpuA := rfl
@[simp] theorem State.store_cpuB (s : State) (a : Word) (v : Byte) : (s.store a v).cpuB = s.cpuB := rfl
@[simp] theorem State.store_mem (s : State) (a : Word) (v : Byte) : (s.store a v).mem = Memory.set s.mem a.toNat v := rfl
@[simp] theorem State.store_shadow (s : State) (a : Word) (v : Byte) : (s.store a v).shadow = s.shadow := rfl
@[simp] theorem State.store_aySel (s : State) (a : Word) (v : Byte) : (s.store a v).aySel = s.aySel := rfl
@[simp] theorem State.store_cycles (s : State) (a : Word) (v : Byte) : (s.store a v).cycles = s.cycles := rfl

@[simp] theorem State.setShadow_params (s : State) (k : Nat) (v : Byte) : (s.setShadow k v).params = s.params := rfl
@[simp] theorem State.setShadow_cpuA (s : State) (k : Nat) (v : Byte) : (s.setShadow k v).cpuA = s.cpuA := rfl
@[simp] theorem State.setShadow_cpuB (s : State) (k : Nat) (v : Byte) : (s.setShadow k v).cpuB = s.cpuB := rfl
@[simp] theorem State.setShadow_mem (s : State) (k : Nat) (v : Byte) : (s.setShadow k v).mem = s.mem := rfl
@[simp] theorem State.setShadow_shadow (s : State) (k : Nat) (v : Byte) : (s.setShadow k v).shadow = s.shadow.set k v := rfl
@[simp] theorem State.setShadow_aySel (s : State) (k : Nat) (v : Byte) : (s.setShadow k v).aySel = s.aySel := rfl
@[simp] theorem State.setShadow_cycles (s : State) (k : Nat) (v : Byte) : (s.setShadow k v).cycles = s.cycles := rfl

@[simp] theorem State.charge_params (s : State) (i : Instr) (b : Bool) : (s.charge i b).params = s.params := rfl
@[simp] theorem State.charge_cpuA (s : State) (i : Instr) (b : Bool) : (s.charge i b).cpuA = s.cpuA := rfl
@[simp] theorem State.charge_cpuB (s : State) (i : Instr) (b : Bool) : (s.charge i b).cpuB = s.cpuB := rfl
@[simp] theorem State.charge_mem (s : State) (i : Instr) (b : Bool) : (s.charge i b).mem = s.mem := rfl
@[simp] theorem State.charge_shadow (s : State) (i : Instr) (b : Bool) : (s.charge i b).shadow = s.shadow := rfl
@[simp] theorem State.charge_aySel (s : State) (i : Instr) (b : Bool) : (s.charge i b).aySel = s.aySel := rfl
@[simp] theorem State.charge_cycles (s : State) (i : Instr) (b : Bool) : (s.charge i b).cycles = cyc s.params i b := rfl

@[simp] theorem State.withCpu_params (s : State) (c : CpuKind) : (s.withCpu c).params = { s.params with cpu := c } := rfl
@[simp] theorem State.withCpu_cpuA (s : State) (c : CpuKind) : (s.withCpu c).cpuA = s.cpuA := rfl
@[simp] theorem State.withCpu_cpuB (s : State) (c : CpuKind) : (s.withCpu c).cpuB = s.cpuB := rfl
@[simp] theorem State.withCpu_mem (s : State) (c : CpuKind) : (s.withCpu c).mem = s.mem := rfl
@[simp] theorem State.withCpu_shadow (s : State) (c : CpuKind) : (s.withCpu c).shadow = s.shadow := rfl
@[simp] theorem State.withCpu_aySel (s : State) (c : CpuKind) : (s.withCpu c).aySel = s.aySel := rfl
@[simp] theorem State.withCpu_cycles (s : State) (c : CpuKind) : (s.withCpu c).cycles = s.cycles := rfl

end Sys2Proof.Machine
end

