-- ==== Sys2Proof/Machine/Voices.lean ====
section
/-! DEFINITION. The four register-to-voice decoders, their frequency formulas and `frequencyToNote`
(50_sound_chip_decoders.md R536 to R555), as pure functions of the parameters and the `SHADOW` bytes. -/

namespace Sys2Proof

/-- A frequency divided by a number. -/
def Hz.over (f : Hz) (k : Nat) : Hz := ⟨f.num, f.den * k⟩

/-- A frequency times a number. -/
def Hz.times (f : Hz) (k : Nat) : Hz := ⟨f.num * k, f.den⟩

/-- `n <= 69 + 12 * log2(f / 440) + 0.5`, without logarithms: both sides of `2 n - 139 <= 24 * log2(f / 440)` as
powers of 2, the denominators cleared (R554; log entry 12). -/
def Hz.atLeastNote (f : Hz) (n : Nat) : Bool :=
  decide (2 ^ (2 * n) * (440 * f.den) ^ 24 ≤ 2 ^ 139 * f.num ^ 24)

/-- The highest note of 0 to `n` that a frequency reaches. -/
def Hz.noteUpTo (f : Hz) : Nat → Nat
  | 0 => 0
  | n + 1 => if f.atLeastNote (n + 1) then n + 1 else Hz.noteUpTo f n

namespace Machine

/-- `VoiceState` (R537): the pitch is the raw register value. -/
structure VoiceState where
  noteOn : Bool
  pitchRegisterValue : BitVec 32
  volume : Option Byte
  deriving DecidableEq, Repr

/-- `reg[i]`; past the end of the register file a free value (log entry 11). -/
def regAt (shadow : List Byte) (i : Nat) : Byte := (shadow[i]?).getD (absentRegister shadow i)

/-- The term `volume > 0` of a gate, which `GATE_NEEDS_VOLUME = false` removes (R537). -/
def volumeGate (p : Params) (volume : Byte) : Bool := !p.gateNeedsVolume || volume != 0

/-- Low byte and the low `n` bits of a high byte, as a number: the timers and periods that two registers hold. -/
def splitField (lo hi : Byte) (n : Nat) : Nat := lo.toNat + 256 * field hi 0 n

/-- NES pulse channel `n` (R541). -/
def nesPulse (p : Params) (sh : List Byte) (n : Nat) : VoiceState :=
  let volume := regAt sh (4 * n) &&& 0x0F
  { noteOn := bit (regAt sh 0x15) n && volumeGate p volume
    pitchRegisterValue := BitVec.ofNat 32 (splitField (regAt sh (4 * n + 2)) (regAt sh (4 * n + 3)) 3)
    volume := some volume }

/-- NES triangle channel (R542). -/
def nesTriangle (sh : List Byte) : VoiceState where
  noteOn := regAt sh 0x08 &&& 0x7F != 0
  pitchRegisterValue := BitVec.ofNat 32 (splitField (regAt sh 0x0A) (regAt sh 0x0B) 3)
  volume := none

/-- NES noise channel (R543): no pitch. -/
def nesNoise (p : Params) (sh : List Byte) : VoiceState :=
  let volume := regAt sh 0x0C &&& 0x0F
  { noteOn := volumeGate p volume, pitchRegisterValue := 0, volume := some volume }

/-- SID voice `v` (R546). -/
def sidVoice (sh : List Byte) (v : Nat) : VoiceState where
  noteOn := bit (regAt sh (7 * v + 4)) 0
  pitchRegisterValue := BitVec.ofNat 32 (splitField (regAt sh (7 * v)) (regAt sh (7 * v + 1)) 8)
  volume := none

/-- POKEY channel `c` (R549). -/
def pokeyVoice (p : Params) (sh : List Byte) (c : Nat) : VoiceState :=
  let audc := regAt sh (2 * c + 1)
  let volume := audc &&& 0x0F
  { noteOn := p.pokeyTone.getLsbD audc.toNat && volumeGate p volume
    pitchRegisterValue := BitVec.ofNat 32 (regAt sh (2 * c)).toNat
    volume := some volume }

/-- AY channel `c` (R552): the mixer bit is active low; period 0 is off whatever `GATE_NEEDS_VOLUME` says. -/
def ayVoice (p : Params) (sh : List Byte) (c : Nat) : VoiceState :=
  let period := splitField (regAt sh (2 * c)) (regAt sh (2 * c + 1)) 4
  let volume := regAt sh (8 + c) &&& 0x0F
  { noteOn := !bit (regAt sh 7) c && volumeGate p volume && decide (0 < period)
    pitchRegisterValue := BitVec.ofNat 32 period
    volume := some volume }

/-- `deriveVoices(shadowRegisters)` of the attached chip, in the list order of R536. -/
def deriveVoices (p : Params) (sh : List Byte) : List VoiceState :=
  match p.chip with
  | .nesApu => [nesPulse p sh 0, nesPulse p sh 1, nesTriangle sh, nesNoise p sh]
  | .sid => [sidVoice sh 0, sidVoice sh 1, sidVoice sh 2]
  | .pokey => [pokeyVoice p sh 0, pokeyVoice p sh 1, pokeyVoice p sh 2, pokeyVoice p sh 3]
  | .ay => [ayVoice p sh 0, ayVoice p sh 1, ayVoice p sh 2]

/-- NES frequency (R544) of channel 0 to 2; the noise channel has none. -/
def nesFrequency (p : Params) (channel timer : Nat) : Option Hz :=
  match channel with
  | 0 | 1 => some (p.nesClock.over (16 * (timer + 1)))
  | 2 => some (p.nesClock.over (32 * (timer + 1)))
  | _ => none

/-- SID frequency (R547). -/
def sidFrequency (p : Params) (freq : Nat) : Hz := (p.sidClock.times freq).over 16777216

/-- Whether POKEY channel index `c` runs at the high-speed clock (R550). -/
def pokeyFast (sh : List Byte) (c : Nat) : Bool :=
  match c with
  | 0 => bit (regAt sh 8) 6
  | 2 => bit (regAt sh 8) 5
  | _ => false

/-- POKEY frequency (R550). -/
def pokeyFrequency (p : Params) (sh : List Byte) (c audf : Nat) : Hz :=
  if pokeyFast sh c then p.pokeyClock.over (2 * (audf + 4))
  else (p.pokeyClock.over (if bit (regAt sh 8) 0 then 114 else 28)).over (2 * (audf + 1))

/-- AY frequency (R553): none for period 0. -/
def ayFrequency (p : Params) (period : Nat) : Option Hz :=
  if period = 0 then none else some (p.ayClock.over (16 * period))

/-- The frequency of a voice of the attached chip, from its channel index and raw pitch (R544, R547, R550, R553). -/
def voiceFrequency (p : Params) (sh : List Byte) (channel pitch : Nat) : Option Hz :=
  match p.chip with
  | .nesApu => nesFrequency p channel pitch
  | .sid => some (sidFrequency p pitch)
  | .pokey => some (pokeyFrequency p sh channel pitch)
  | .ay => ayFrequency p pitch

/-- `frequencyToNote(frequency)` (R554): none for an undefined frequency and outside 20 Hz to 20 kHz. Over that range
the note is at most 135. -/
def frequencyToNote : Option Hz → Option Nat
  | none => none
  | some f =>
    if f.den = 0 ∨ f.num < 20 * f.den ∨ 20000 * f.den < f.num then none else some (f.noteUpTo 135)

end Machine

end Sys2Proof
end

