-- ==== Sys2Proof/Machine/Driver.lean ====
section
/-! DEFINITION. The call convention `runUntilStackDepth` (70_reset_and_hazards.md R614 to R618) and the host that uses it,
the ReplayDriver (R620 to R626), at the boundary the spec gives it (00_scope.md R5). -/

namespace Sys2Proof.Machine

/-! ### runUntilStackDepth -/

/-- The entry sequence (R615): the sentinel is pushed, high byte first, and `PC` is the target. -/
def State.enterRoutine (s : State) (target : Word) : State :=
  match s.params.cpu with
  | .a => (s.push16A s.params.sentinel).setPcA target
  | .b => (s.push16B s.params.sentinel).setPcB target

/-- The loop (R616): while `SPR < S0` and `total < maxCycles`, both tests before every step. The first argument bounds
the number of steps; `maxCycles` steps are enough, because every step costs at least 1 (R618). -/
def runLoop (s0 maxCycles : Nat) : Nat → Nat → State → Nat × State
  | 0, total, s => (total, s)
  | fuel + 1, total, s =>
    if s.spr < s0 ∧ total < maxCycles then
      match step s with
      | .next t => runLoop s0 maxCycles fuel (total + t.cycles) t
      | .fault _ => (total, s)
      | .refused _ => (total, s)
    else (total, s)

/-- `runUntilStackDepth(target, maxCycles)` (R614): the returned total and the state at the end. -/
def runUntilStackDepth (s : State) (target : Word) (maxCycles : Nat) : Nat × State :=
  runLoop s.spr maxCycles maxCycles 0 (s.enterRoutine target)

/-! ### The host -/

/-- The driver's three states (R620). -/
inductive Phase where
  | idle
  | initialized
  | replaying
  deriving DecidableEq, Repr

/-- The per-song and session inputs (R9, 92_eei_decisions.md D37). `initMem` lists the cells of `INIT_MEM` that are not
0x00. -/
structure Song where
  params : Params
  initMem : List (Word × Byte)
  initAddress : Word
  tickAddress : Word
  /-- `RESET_SP` -/
  resetSp : Word
  /-- `TICK_BUDGET` -/
  tickBudget : Nat
  tickRateHz : Nat
  targetDurationSeconds : Nat
  deriving DecidableEq, Repr

/-- One FrameSnapshot (R624). -/
structure FrameSnapshot where
  tick : Nat
  voices : List VoiceState
  deriving DecidableEq, Repr

/-- The ReplayDriver: its phase, its song, the session once it exists, and the snapshots, oldest first. -/
structure Driver where
  phase : Phase
  song : Song
  session : Option State
  snapshots : List FrameSnapshot
  deriving DecidableEq, Repr

/-- `INIT_MEM` stored into an empty memory, without intercepts. -/
def State.fill (s : State) : List (Word × Byte) → State
  | [] => s
  | c :: cs => State.fill (s.store c.1 c.2) cs

/-- Session creation (R611). The registers before the first `reset` are nobody's to read; they are given reset values
(93_implementation_defined.md U22, log entry 20). -/
def createSession (p : Params) (initMem : List (Word × Byte)) : State :=
  (State.fresh p 0 0 0 0).fill initMem

/-- The stack pointer `reset` gets, at the register's width (R631). -/
def Song.resetDepth (g : Song) : Nat :=
  match g.params.cpu with
  | .a => (loByte g.resetSp).toNat
  | .b => g.resetSp.toNat

/-- What the host accepts (R631, 93_implementation_defined.md U6, U7, U8, U11; log entry 16). -/
def Song.ok (g : Song) : Bool := g.params.wf && decide (2 ≤ g.resetDepth)

/-- The session after `load` (R621): created, loaded, reset, and the init routine run once. -/
def Song.loaded (g : Song) (codeBytes : List Byte) (loadAddress : Word) : State :=
  let s := (createSession g.params g.initMem).loadBlock loadAddress codeBytes
  (runUntilStackDepth (s.resetCpu g.initAddress g.resetSp) g.initAddress g.tickBudget).2

/-- A driver before `load`. -/
def Driver.new (g : Song) : Driver where
  phase := .idle
  song := g
  session := none
  snapshots := []

/-- `load(codeBytes, loadAddress)` (R621): from Idle to Initialized; no snapshot. A configuration that `Song.ok` rejects,
and a second load, are turned away. -/
def Driver.load (d : Driver) (codeBytes : List Byte) (loadAddress : Word) : Option Driver :=
  match d.phase with
  | .idle =>
    if d.song.ok then
      some { d with phase := .initialized, session := some (d.song.loaded codeBytes loadAddress) }
    else none
  | .initialized | .replaying => none

/-- The session after one tick (R622). -/
def Song.ticked (g : Song) (s : State) : State := (runUntilStackDepth s g.tickAddress g.tickBudget).2

/-- `advanceTick()` (R622): the tick routine, then one snapshot. Nothing is reset in between (R623). -/
def Driver.advanceTick (d : Driver) : Option Driver :=
  match d.session with
  | none => none
  | some s =>
    let t := d.song.ticked s
    some { d with
      phase := .replaying
      session := some t
      snapshots := d.snapshots ++ [{ tick := d.snapshots.length, voices := deriveVoices t.params t.shadow }] }

/-- The number of ticks of a song (R625, D37). -/
def Song.ticks (g : Song) : Nat := g.tickRateHz * g.targetDurationSeconds

/-- `n` ticks in a row. -/
def Driver.replay : Nat → Driver → Option Driver
  | 0, d => some d
  | n + 1, d =>
    match d.advanceTick with
    | none => none
    | some e => Driver.replay n e

end Sys2Proof.Machine
end

