-- ==== Sys2Proof/Laws/Ops.lean ====
section
/-! SUPPORT. For each shared operation, once, everything it can do: what it leaves alone, what it writes, and that it keeps
the form of the state. -/

namespace Sys2Proof.Machine

/-! ### Memory -/

@[simp] theorem State.forward_params (s : State) (a : Word) (v : Byte) : (s.forward a v).params = s.params := by
  unfold State.forward; split <;> rfl

@[simp] theorem State.forward_cpuA (s : State) (a : Word) (v : Byte) : (s.forward a v).cpuA = s.cpuA := by
  unfold State.forward; split <;> rfl

@[simp] theorem State.forward_cpuB (s : State) (a : Word) (v : Byte) : (s.forward a v).cpuB = s.cpuB := by
  unfold State.forward; split <;> rfl

@[simp] theorem State.forward_mem (s : State) (a : Word) (v : Byte) : (s.forward a v).mem = s.mem := by
  unfold State.forward; split <;> rfl

@[simp] theorem State.forward_aySel (s : State) (a : Word) (v : Byte) : (s.forward a v).aySel = s.aySel := by
  unfold State.forward; split <;> rfl

@[simp] theorem State.forward_cycles (s : State) (a : Word) (v : Byte) : (s.forward a v).cycles = s.cycles := by
  unfold State.forward; split <;> rfl

@[simp] theorem State.forward_shadow_length (s : State) (a : Word) (v : Byte) :
    (s.forward a v).shadow.length = s.shadow.length := by
  unfold State.forward; split <;> simp

@[simp] theorem State.write_params (s : State) (a : Word) (v : Byte) : (s.write a v).params = s.params := by
  simp [State.write]

@[simp] theorem State.write_cpuA (s : State) (a : Word) (v : Byte) : (s.write a v).cpuA = s.cpuA := by
  simp [State.write]

@[simp] theorem State.write_cpuB (s : State) (a : Word) (v : Byte) : (s.write a v).cpuB = s.cpuB := by
  simp [State.write]

@[simp] theorem State.write_aySel (s : State) (a : Word) (v : Byte) : (s.write a v).aySel = s.aySel := by
  simp [State.write]

@[simp] theorem State.write_cycles (s : State) (a : Word) (v : Byte) : (s.write a v).cycles = s.cycles := by
  simp [State.write]

@[simp] theorem State.write_mem (s : State) (a : Word) (v : Byte) :
    (s.write a v).mem = Memory.set s.mem a.toNat v := by
  simp [State.write]

@[simp] theorem State.write_shadow_length (s : State) (a : Word) (v : Byte) :
    (s.write a v).shadow.length = s.shadow.length := by
  simp [State.write]

/-- A read depends on memory alone. -/
theorem State.read_congr {s t : State} (h : t.mem = s.mem) (a : Word) : t.read a = s.read a := by
  simp [State.read, h]

/-- A read of the address just written gives the byte written. -/
theorem State.read_write_self (s : State) (a : Word) (v : Byte) : (s.write a v).read a = v := by
  simp [State.read, Memory.get_set_self]

/-- A write leaves every other byte alone. -/
theorem State.read_write_other (s : State) (a b : Word) (v : Byte) (h : b ≠ a) : (s.write a v).read b = s.read b := by
  have h' : b.toNat ≠ a.toNat := fun e => h (BitVec.eq_of_toNat_eq e)
  simp [State.read, Memory.get_set_other _ _ _ _ h']

/-- A write keeps the canonical form of memory. -/
theorem State.write_wf (s : State) (a : Word) (v : Byte) (h : Memory.wf s.mem = true) :
    Memory.wf (s.write a v).mem = true := by
  rw [State.write_mem]
  exact Memory.wf_set _ _ _ a.isLt h

/-- `loadBlock` keeps the canonical form of memory. -/
theorem State.loadBlock_wf (bs : List Byte) : ∀ (s : State) (a : Word), Memory.wf s.mem = true →
    Memory.wf (s.loadBlock a bs).mem = true := by
  induction bs with
  | nil => exact fun s a h => h
  | cons b bs ih => exact fun s a h => ih _ _ (Memory.wf_set _ _ _ a.isLt h)

/-- `INIT_MEM` keeps the canonical form of memory. -/
theorem State.fill_wf (cs : List (Word × Byte)) : ∀ s : State, Memory.wf s.mem = true →
    Memory.wf (s.fill cs).mem = true := by
  induction cs with
  | nil => exact fun s h => h
  | cons c cs ih => exact fun s h => ih _ (Memory.wf_set _ _ _ c.1.isLt h)

/-- Reset memory has the canonical form. -/
theorem State.reset_wf : Memory.wf State.reset.mem = true := rfl

/-! ### Ports -/

@[simp] theorem State.ioWrite_params (s : State) (p : Word) (v : Byte) : (s.ioWrite p v).params = s.params := by
  unfold State.ioWrite State.ayWrite; repeat' split
  all_goals rfl

@[simp] theorem State.ioWrite_cpuA (s : State) (p : Word) (v : Byte) : (s.ioWrite p v).cpuA = s.cpuA := by
  unfold State.ioWrite State.ayWrite; repeat' split
  all_goals rfl

@[simp] theorem State.ioWrite_cpuB (s : State) (p : Word) (v : Byte) : (s.ioWrite p v).cpuB = s.cpuB := by
  unfold State.ioWrite State.ayWrite; repeat' split
  all_goals rfl

@[simp] theorem State.ioWrite_mem (s : State) (p : Word) (v : Byte) : (s.ioWrite p v).mem = s.mem := by
  unfold State.ioWrite State.ayWrite; repeat' split
  all_goals rfl

@[simp] theorem State.ioWrite_cycles (s : State) (p : Word) (v : Byte) : (s.ioWrite p v).cycles = s.cycles := by
  unfold State.ioWrite State.ayWrite; repeat' split
  all_goals rfl

@[simp] theorem State.ioWrite_shadow_length (s : State) (p : Word) (v : Byte) :
    (s.ioWrite p v).shadow.length = s.shadow.length := by
  unfold State.ioWrite State.ayWrite; repeat' split
  all_goals simp

/-- A port that `IO_READ` does not list answers 0xFF (R85). -/
theorem ioRead_unlisted (p : Params) (port : Word) (h : ∀ e ∈ p.ioRead, e.1 ≠ port.toNat) : ioRead p port = 0xFF := by
  have f : p.ioRead.find? (fun e => e.1 == port.toNat) = none := by simpa using h
  simp [ioRead, f]

/-! ### The register file -/

/-- A decoder reads the byte of the register file wherever there is one. -/
theorem regAt_of_some {sh : List Byte} {k : Nat} {v : Byte} (h : sh[k]? = some v) : regAt sh k = v := by
  simp [regAt, h]

end Sys2Proof.Machine
end

