-- ==== Sys2Proof/Safety.lean ====
section
/-! DEFINITION. What a safe run is (60_exceptions.md R580, R582), and the terms in which statements say what an
instruction leaves alone and what it writes. -/

namespace Sys2Proof.Machine

/-- The form every reachable state has: memory is canonical (10_state.md R20) and `SHADOW` has `CHIP_SIZE` bytes
(R35). -/
def State.Inv (s : State) : Prop := Memory.wf s.mem = true ∧ s.shadow.length = s.params.chipSize

/-- A step from the state has a next state and costs at least one cycle (R582, R613). -/
def State.StepsOn (s : State) : Prop := ∃ t, step s = .next t ∧ 1 ≤ t.cycles

/-- What an instruction of CPU-A leaves when it does nothing but pass by: `PC` past it, its cost, and every other part of
the state as before. -/
def State.passA (s : State) (i : Instr) : State :=
  { s with cpuA := { s.cpuA with pc := s.cpuA.pc + BitVec.ofNat 16 i.length }, cycles := cyc s.params i false }

/-- `R` after `n` opcode fetches (R32): bit 7 kept, bits 6:0 counted modulo 128. -/
def refreshed (r : Byte) (n : Nat) : Byte := (r &&& 0x80) ||| ((r + BitVec.ofNat 8 n) &&& 0x7F)

/-- What an instruction of CPU-B leaves when it jumps to a target at a cost and does nothing else: `PC`, `R` and the cost
change, every other part of the state is as before. -/
def State.goB (s : State) (i : Instr) (v : Bool) (target : Word) : State :=
  { s with cpuB := { s.cpuB with pc := target, r := refreshed s.cpuB.r i.fetches }, cycles := cyc s.params i v }

/-- What an instruction of CPU-B leaves when it does nothing but pass by. -/
def State.passB (s : State) (i : Instr) : State := s.goB i false (s.cpuB.pc + BitVec.ofNat 16 i.length)

/-- Several calls of `write`, first one first. -/
def State.writeAll (s : State) : List (Word × Byte) → State
  | [] => s
  | w :: ws => State.writeAll (s.write w.1 w.2) ws

/-- The byte of a read-modify-write location, as the one call of `write` a memory form makes (R203, R404). -/
def locWrites (s : State) (v : Loc8) (r : Byte) : List (Word × Byte) :=
  match s.loc8Addr v with
  | none => []
  | some a => [(a, r)]

/-- The same for CPU-A's shifts and rotates. -/
def targetWrites (s : State) (t : ATarget) (r : Byte) : List (Word × Byte) :=
  match t with
  | .acc => []
  | .mem m => [(s.ea m, r)]

/-- The two calls of `write` of a 16-bit store, low byte first (R14). -/
def wordWrites (a w : Word) : List (Word × Byte) := [(a, loByte w), (a + 1, hiByte w)]

/-- The two calls of `write` of CPU-B's push (R16): the high byte first. -/
def pushWrites (s : State) (w : Word) : List (Word × Byte) :=
  [(s.cpuB.sp - 1, hiByte w), (s.cpuB.sp - 2, loByte w)]

/-- The two calls of `write` of EX (SP),HL and EX (SP),XY (R339): the high byte first. -/
def topWrites (s : State) (w : Word) : List (Word × Byte) := [(s.cpuB.sp + 1, hiByte w), (s.cpuB.sp, loByte w)]

/-- The calls of `write` an instruction makes, in order: what a write intercept sees (R72, R73). The last group makes
none. -/
def memoryWrites (s : State) : Instr → List (Word × Byte)
  | .aSta m => [(s.ea m, s.cpuA.a)]
  | .aStx m => [(s.ea m, s.cpuA.x)]
  | .aSty m => [(s.ea m, s.cpuA.y)]
  | .aPha => [(stackAddrA s.cpuA.s, s.cpuA.a)]
  | .aPhp => [(stackAddrA s.cpuA.s, s.cpuA.p.toByte)]
  | .aInc m => [(s.ea m, s.read (s.ea m) + 1)]
  | .aDec m => [(s.ea m, s.read (s.ea m) - 1)]
  | .aAsl t => targetWrites s t (shiftLeft (s.target t) false).1
  | .aLsr t => targetWrites s t (shiftRight (s.target t) false).1
  | .aRol t => targetWrites s t (shiftLeft (s.target t) s.cpuA.p.c).1
  | .aRor t => targetWrites s t (shiftRight (s.target t) s.cpuA.p.c).1
  | .aJsr _ =>
    [(stackAddrA s.cpuA.s, hiByte (s.cpuA.pc + 2)), (stackAddrA (s.cpuA.s - 1), loByte (s.cpuA.pc + 2))]
  | .bLdHlR q => [(s.hl, s.reg q)]
  | .bLdXyR i d q => [(s.indexed i d, s.reg q)]
  | .bLdHlN n => [(s.hl, n)]
  | .bLdXyN i d n => [(s.indexed i d, n)]
  | .bLdBcA => [(s.bc, s.reg .a)]
  | .bLdDeA => [(s.de, s.reg .a)]
  | .bLdMemA nn => [(nn, s.reg .a)]
  | .bLdMemHl nn => wordWrites nn s.hl
  | .bLdMemDd nn p => wordWrites nn (s.pair p)
  | .bLdMemXy nn i => wordWrites nn (s.index i)
  | .bPush q => pushWrites s (s.stackPair q)
  | .bPushXy i => pushWrites s (s.index i)
  | .bExSpHl => topWrites s s.hl
  | .bExSpXy i => topWrites s (s.index i)
  | .bLdi | .bLdir | .bLdd | .bLddr => [(s.de, s.read s.hl)]
  | .bInc v => locWrites s v (s.loc8 v + 1)
  | .bDec v => locWrites s v (s.loc8 v - 1)
  | .bRlc v => locWrites s v (shiftLeft (s.loc8 v) (bit (s.loc8 v) 7)).1
  | .bRrc v => locWrites s v (shiftRight (s.loc8 v) (bit (s.loc8 v) 0)).1
  | .bRl v => locWrites s v (shiftLeft (s.loc8 v) s.flags.c).1
  | .bRr v => locWrites s v (shiftRight (s.loc8 v) s.flags.c).1
  | .bSla v => locWrites s v (shiftLeft (s.loc8 v) false).1
  | .bSra v => locWrites s v (shiftRight (s.loc8 v) (bit (s.loc8 v) 7)).1
  | .bSrl v => locWrites s v (shiftRight (s.loc8 v) false).1
  | .bRld => [(s.hl, (s.read s.hl <<< 4) ||| (s.reg .a &&& 0x0F))]
  | .bRrd => [(s.hl, ((s.reg .a &&& 0x0F) <<< 4) ||| (s.read s.hl >>> 4))]
  | .bSet b v => locWrites s v (s.loc8 v ||| (1#8 <<< b.val))
  | .bRes b v => locWrites s v (s.loc8 v &&& ~~~(1#8 <<< b.val))
  | .bCall _ => pushWrites s (s.cpuB.pc + 3)
  | .bCallCc cc _ => if s.cond cc then pushWrites s (s.cpuB.pc + 3) else []
  | .bRst _ => pushWrites s (s.cpuB.pc + 1)
  | .bIni | .bInir | .bInd | .bIndr => [(s.hl, ioRead s.params s.bc)]
  | .aLda _ | .aLdx _ | .aLdy _ | .aTax | .aTay | .aTxa | .aTya | .aTsx | .aTxs | .aPla | .aPlp | .aAdc _ | .aSbc _ => []
  | .aAnd _ | .aOra _ | .aEor _ | .aCmp _ | .aCpx _ | .aCpy _ | .aBit _ | .aInx | .aIny | .aDex | .aDey | .aBpl _ => []
  | .aBmi _ | .aBvc _ | .aBvs _ | .aBcc _ | .aBcs _ | .aBne _ | .aBeq _ | .aJmp _ | .aJmpInd _ | .aRts | .aClc => []
  | .aSec | .aCli | .aSei | .aClv | .aCld | .aSed | .aNop | .aNop1 _ | .aNop2 _ _ | .aUnk _ | .aBrk | .aRti => []
  | .bLdRR _ _ | .bLdRN _ _ | .bLdRHl _ | .bLdRXy _ _ _ | .bLdABc | .bLdADe | .bLdAMem _ | .bLdAI | .bLdARefresh => []
  | .bLdIA | .bLdRefreshA | .bLdDdNn _ _ | .bLdXyNn _ _ | .bLdHlMem _ | .bLdDdMem _ _ | .bLdXyMem _ _ | .bLdSpHl => []
  | .bLdSpXy _ | .bPop _ | .bPopXy _ | .bExDeHl | .bExAf | .bExx | .bCpi | .bCpir | .bCpd | .bCpdr | .bAdd _ => []
  | .bAdc _ | .bSub _ | .bSbc _ | .bAnd _ | .bXor _ | .bOr _ | .bCp _ | .bDaa | .bCpl | .bNeg | .bCcf | .bScf => []
  | .bAddHl _ | .bAdcHl _ | .bSbcHl _ | .bAddXy _ _ | .bIncSs _ | .bIncXy _ | .bDecSs _ | .bDecXy _ | .bRlca | .bRla => []
  | .bRrca | .bRra | .bBit _ _ | .bJp _ | .bJpCc _ _ | .bJr _ | .bJrCc _ _ | .bJpHl | .bJpXy _ | .bDjnz _ | .bRet => []
  | .bRetCc _ | .bReti | .bRetn | .bInAN _ | .bInRC _ | .bOutNA _ | .bOutCR _ | .bOuti | .bOtir | .bOutd | .bOtdr => []
  | .bNop | .bHalt | .bDi | .bEi | .bIm _ | .bUnkCb _ | .bUnkEd _ | .bUnkXy _ | .bUnkXycb _ _ _ => []

/-- The instructions whose rule assigns `PC` (R17): jumps, calls, returns, branches, HALT, and the repeating block
instructions. -/
def assignsPc : Instr → Bool
  | .aBpl _ | .aBmi _ | .aBvc _ | .aBvs _ | .aBcc _ | .aBcs _ | .aBne _ | .aBeq _ => true
  | .aJmp _ | .aJmpInd _ | .aJsr _ | .aRts => true
  | .bJp _ | .bJpCc _ _ | .bJr _ | .bJrCc _ _ | .bJpHl | .bJpXy _ | .bDjnz _ => true
  | .bCall _ | .bCallCc _ _ | .bRet | .bRetCc _ | .bReti | .bRetn | .bRst _ | .bHalt => true
  | .bLdir | .bLddr | .bCpir | .bCpdr | .bInir | .bIndr | .bOtir | .bOtdr => true
  | .aLda _ | .aLdx _ | .aLdy _ | .aSta _ | .aStx _ | .aSty _ | .aTax | .aTay | .aTxa | .aTya | .aTsx | .aTxs => false
  | .aPha | .aPhp | .aPla | .aPlp | .aAdc _ | .aSbc _ | .aAnd _ | .aOra _ | .aEor _ | .aCmp _ | .aCpx _ | .aCpy _ => false
  | .aBit _ | .aInc _ | .aDec _ | .aInx | .aIny | .aDex | .aDey | .aAsl _ | .aLsr _ | .aRol _ | .aRor _ | .aClc => false
  | .aSec | .aCli | .aSei | .aClv | .aCld | .aSed | .aNop | .aNop1 _ | .aNop2 _ _ | .aUnk _ | .aBrk | .aRti => false
  | .bLdRR _ _ | .bLdRN _ _ | .bLdRHl _ | .bLdRXy _ _ _ | .bLdHlR _ | .bLdXyR _ _ _ | .bLdHlN _ | .bLdXyN _ _ _ => false
  | .bLdABc | .bLdADe | .bLdAMem _ | .bLdBcA | .bLdDeA | .bLdMemA _ | .bLdAI | .bLdARefresh | .bLdIA | .bLdRefreshA => false
  | .bLdDdNn _ _ | .bLdXyNn _ _ | .bLdHlMem _ | .bLdDdMem _ _ | .bLdXyMem _ _ | .bLdMemHl _ | .bLdMemDd _ _ => false
  | .bLdMemXy _ _ | .bLdSpHl | .bLdSpXy _ | .bPush _ | .bPushXy _ | .bPop _ | .bPopXy _ | .bExDeHl | .bExAf | .bExx => false
  | .bExSpHl | .bExSpXy _ | .bLdi | .bLdd | .bCpi | .bCpd | .bAdd _ | .bAdc _ | .bSub _ | .bSbc _ | .bAnd _ => false
  | .bXor _ | .bOr _ | .bCp _ | .bInc _ | .bDec _ | .bDaa | .bCpl | .bNeg | .bCcf | .bScf | .bAddHl _ | .bAdcHl _ => false
  | .bSbcHl _ | .bAddXy _ _ | .bIncSs _ | .bIncXy _ | .bDecSs _ | .bDecXy _ | .bRlca | .bRla | .bRrca | .bRra => false
  | .bRlc _ | .bRrc _ | .bRl _ | .bRr _ | .bSla _ | .bSra _ | .bSrl _ | .bRld | .bRrd | .bBit _ _ | .bSet _ _ => false
  | .bRes _ _ | .bInAN _ | .bInRC _ | .bIni | .bInd | .bOutNA _ | .bOutCR _ | .bOuti | .bOutd | .bNop | .bDi | .bEi => false
  | .bIm _ | .bUnkCb _ | .bUnkEd _ | .bUnkXy _ | .bUnkXycb _ _ _ => false

end Sys2Proof.Machine
end

