-- ==== Sys2Proof/Certificates/Slice0/Obligations.lean ====
section
/-! DEFINITION. The statements about the model. In a result statement, `(s').passA i` and `(s').passB i` are the state
`s'` with `PC` past the instruction, the cost charged, and on CPU-B `R` advanced; `s'` names every other effect, so an
equation with them is also the frame: nothing else changes, no byte of memory either. -/

section ModelStatements

open Sys2Proof Sys2Proof.Machine

/-! ### The machine as a whole -/

/-- R582: every instruction and every step has a next state and costs at least one cycle. -/
def Obligations.EveryInstructionCompletes : Prop :=
  (∀ (i : Instr) (s : State), ∃ t, exec i s = .next t ∧ 1 ≤ t.cycles) ∧
  ∀ s : State, ∃ t, step s = .next t ∧ 1 ≤ t.cycles

/-- R100, R613: when the bytes at `PC` decode to a well-formed instruction, the step is that instruction's. -/
def Obligations.StepRunsTheDecodedInstruction : Prop :=
  ∀ (s : State) (i : Instr), WellFormed i = true →
    decode s.params.cpu (s.read s.pc) (s.read (s.pc + 1)) (s.read (s.pc + 2)) (s.read (s.pc + 3)) = i →
    step s = exec i s

/-- Decoding the encoding of a well-formed instruction gives it back, whatever bytes follow; a lone prefix is one only
before a byte that forms no indexed instruction (R133). -/
def Obligations.DecodeOfEncode : Prop :=
  ∀ (i : Instr) (rest : List Byte), WellFormed i = true →
    (∀ k, i = .bUnkXy k → xyOpcodes.contains (rest.getD 0 0) = false) →
    let bytes := encode i ++ rest
    decode i.cpu (bytes.getD 0 0) (bytes.getD 1 0) (bytes.getD 2 0) (bytes.getD 3 0) = i

/-- Every byte sequence decodes to a well-formed instruction of the CPU, whose encoding is its first `len` bytes (R102,
R103, R124). -/
def Obligations.EncodeOfDecode : Prop :=
  ∀ (cpu : CpuKind) (b0 b1 b2 b3 : Byte),
    let i := decode cpu b0 b1 b2 b3
    WellFormed i = true ∧ i.cpu = cpu ∧ encode i = [b0, b1, b2, b3].take i.length

/-- Words written out from the encodings of R151, R154, R271, R272, R260, R283, R302, R304, R308, R323, R342, R414, R405,
R454, R520. -/
def Obligations.SpecWordsDecode : Prop :=
  decode .a 0xA9 0x80 0x00 0x00 = .aLda (.imm 0x80) ∧
  decode .a 0x8D 0x00 0xD4 0x00 = .aSta (.abs 0xD400) ∧
  decode .a 0x6C 0xFF 0x12 0x00 = .aJmpInd 0x12FF ∧
  decode .a 0x20 0x00 0x09 0x00 = .aJsr 0x0900 ∧
  decode .a 0x10 0x05 0x00 0x00 = .aBpl 0x05 ∧
  decode .a 0x04 0xA9 0x00 0x00 = .aNop2 0x04 0xA9 ∧
  decode .b 0x3E 0x07 0x00 0x00 = .bLdRN .a 0x07 ∧
  decode .b 0xDD 0x7E 0xFE 0x00 = .bLdRXy .a .ix 0xFE ∧
  decode .b 0xDD 0x36 0x01 0x7F = .bLdXyN .ix 0x01 0x7F ∧
  decode .b 0xED 0x4B 0x00 0xC0 = .bLdDdMem .bc 0xC000 ∧
  decode .b 0xED 0xB0 0x00 0x00 = .bLdir ∧
  decode .b 0xCB 0x50 0x00 0x00 = .bBit 2 (.reg .b) ∧
  decode .b 0xFD 0xCB 0x05 0x06 = .bRlc (.idx .iy 0x05) ∧
  decode .b 0x28 0xFA 0x00 0x00 = .bJrCc .z 0xFA ∧
  decode .b 0xED 0x71 0x00 0x00 = .bUnkEd 0x71 ∧
  decode .b 0xDD 0x7C 0x00 0x00 = .bUnkXy .ix

/-- R610 with the values of R39 (decisions D8, D27): `reset` sets every register of the session's CPU and nothing else. -/
def Obligations.ResetSetsEveryRegister : Prop :=
  ∀ (s : State) (pc sp : Word),
    s.resetCpu pc sp =
      match s.params.cpu with
      | .a => { s with cpuA := { a := 0, x := 0, y := 0, s := loByte sp, pc := pc,
                                 p := { n := false, v := false, d := false, i := true, z := false, c := false } } }
      | .b => { s with cpuB :=
                  { main := { a := 0, f := 0, b := 0, c := 0, d := 0, e := 0, h := 0, l := 0 },
                    alt := { a := 0, f := 0, b := 0, c := 0, d := 0, e := 0, h := 0, l := 0 },
                    ix := 0, iy := 0, sp := sp, pc := pc, i := 0, r := 0, iff1 := false, iff2 := false, im := .im0 } }

/-- The state after reset has the form of `State.Inv`. -/
def Obligations.ResetMeetsTheInvariant : Prop := State.reset.Inv

/-- Every step keeps memory canonical and `SHADOW` at `CHIP_SIZE` bytes (R20, R35). -/
def Obligations.StepKeepsTheInvariant : Prop :=
  ∀ s t : State, s.Inv → step s = .next t → t.Inv

/-- R593, R38: a step changes no launch parameter and no register of the CPU the session does not have; a CPU-A session's
AY latch stays too. -/
def Obligations.StepTouchesOnlyItsOwnCpu : Prop :=
  ∀ s t : State, step s = .next t →
    t.params = s.params ∧
    (s.params.cpu = .a → t.cpuB = s.cpuB ∧ t.aySel = s.aySel) ∧
    (s.params.cpu = .b → t.cpuA = s.cpuA)

/-- R32, R33: `IFF1`, `IFF2`, `IM` and `I` change by their own instructions only; `R` is advanced by the opcode fetches of
every instruction of CPU-B, and only LD R,A loads it. -/
def Obligations.SpecialRegisterWriters : Prop :=
  ∀ (i : Instr) (s t : State), exec i s = .next t →
    let fetches := if 2 ≤ i.length ∧ (encode i).getD 0 0 ∈ [0xCB#8, 0xDD#8, 0xED#8, 0xFD#8] then 2 else 1
    (i ≠ .bDi → i ≠ .bEi → i ≠ .bRetn → t.cpuB.iff1 = s.cpuB.iff1) ∧
    (i ≠ .bDi → i ≠ .bEi → t.cpuB.iff2 = s.cpuB.iff2) ∧
    ((∀ m, i ≠ .bIm m) → t.cpuB.im = s.cpuB.im) ∧
    (i ≠ .bLdIA → t.cpuB.i = s.cpuB.i) ∧
    (i.cpu = .b → i ≠ .bLdRefreshA →
      t.cpuB.r = (s.cpuB.r &&& 0x80) ||| ((s.cpuB.r + BitVec.ofNat 8 fetches) &&& 0x7F))

/-- R31, R300: bits 5 and 3 of `F` change by POP AF and EX AF,AF' only. -/
def Obligations.FlagBitsFiveAndThreeAreStorage : Prop :=
  ∀ (i : Instr) (s t : State), exec i s = .next t → i ≠ .bPop .af → i ≠ .bExAf →
    t.cpuB.main.f.getLsbD 5 = s.cpuB.main.f.getLsbD 5 ∧ t.cpuB.main.f.getLsbD 3 = s.cpuB.main.f.getLsbD 3

/-- R25, R200, R584: `P.D` and `P.I` are written by their own instructions only, and no instruction but PHP depends on
them: with other values of the two, everything else comes out the same. -/
def Obligations.DecimalAndInterruptFlagsAreInert : Prop :=
  ∀ (i : Instr) (s t : State) (d k : Bool), i ≠ .aPhp → exec i s = .next t →
    (i ≠ .aSed → i ≠ .aCld → i ≠ .aPlp → t.cpuA.p.d = s.cpuA.p.d) ∧
    (i ≠ .aSei → i ≠ .aCli → i ≠ .aPlp → t.cpuA.p.i = s.cpuA.p.i) ∧
    ∃ u, exec i (s.setP { s.cpuA.p with d := d, i := k }) = .next u ∧
      u.setP { u.cpuA.p with d := false, i := false } = t.setP { t.cpuA.p with d := false, i := false }

/-- R17: an instruction whose rule does not assign `PC` leaves it past itself. -/
def Obligations.PcMovesPastTheInstruction : Prop :=
  ∀ (i : Instr) (s t : State), exec i s = .next t → assignsPc i = false →
    (i.cpu = .a → t.cpuA.pc = s.cpuA.pc + BitVec.ofNat 16 i.length) ∧
    (i.cpu = .b → t.cpuB.pc = s.cpuB.pc + BitVec.ofNat 16 i.length)

/-- R73: memory after an instruction is memory after its calls of `write` in order, every other byte is as before, and
for a memory-mapped chip so is `SHADOW`. -/
def Obligations.MemoryChangesOnlyByTheWrites : Prop :=
  ∀ (i : Instr) (s t : State), exec i s = .next t →
    t.mem = (s.writeAll (memoryWrites s i)).mem ∧
    (∀ a, (∀ w ∈ memoryWrites s i, w.1 ≠ a) → t.read a = s.read a) ∧
    (s.params.chip ≠ .ay → t.shadow = (s.writeAll (memoryWrites s i)).shadow)

/-- R71, R72, R530, R531: what one `write` does to every byte of memory and of `SHADOW`. That it touches nothing else rests
on R74 and on log entry 10 (DEDUCED): the chip forwarding is the only write intercept. -/
def Obligations.WriteStoresAndForwards : Prop :=
  ∀ (s : State) (a b : Word) (v : Byte) (k : Nat),
    (s.write a v).read b = (if b = a then v else s.read b) ∧
    (s.write a v).shadow[k]? =
      (if s.params.chip ≠ .ay ∧ a.toNat = s.params.chipBase + k ∧ k < s.params.chipSize then
        s.shadow[k]?.map (fun _ => v) else s.shadow[k]?) ∧
    s.write a v = { s with mem := (s.write a v).mem, shadow := (s.write a v).shadow }

/-- R75: after `loadBlock` an address holds the last byte of the block that falls on it, addresses taken modulo 65536,
and otherwise its old byte; nothing but memory changes, `SHADOW` neither. -/
def Obligations.LoadBlockWrapsAndFiresNoIntercept : Prop :=
  ∀ (s : State) (a b : Word) (bytes : List Byte),
    (s.loadBlock a bytes).read b =
      bytes.zipIdx.foldl (fun acc e => if a + BitVec.ofNat 16 e.2 = b then e.1 else acc) (s.read b) ∧
    s.loadBlock a bytes = { s with mem := (s.loadBlock a bytes).mem }

/-- R640: with any other cycle table an instruction does the same; only the returned count can differ. -/
def Obligations.CycleTableIsInvisible : Prop :=
  ∀ (i : Instr) (s t : State) (table : List CycleEntry), exec i s = .next t →
    ∃ n, exec i { s with params := { s.params with cycles := table } } =
      .next { t with params := { t.params with cycles := table }, cycles := n }

/-- R641, R642: the default costs of both CPUs by opcode bytes, not taken (or finished) and taken (or repeating), and that
an instruction costs its default where the session's table has no entry for it and the first entry for it otherwise (the
form of the table is the model's, log entry 9). -/
def Obligations.DefaultCostTables : Prop :=
  (∀ b0 b1 b2 : Byte,
    (decodeA b0 b1 b2).defaultCycles false =
      (([2,6,2,2,3,3,5,2,3,2,2,2,2,4,6,2, 2,5,2,2,4,4,6,2,2,4,2,2,2,4,7,2] ++
        [6,6,2,2,3,3,5,2,4,2,2,2,4,4,6,2, 2,5,2,2,4,4,6,2,2,4,2,2,2,4,7,2] ++
        [2,6,2,2,3,3,5,2,3,2,2,2,3,4,6,2, 2,5,2,2,4,4,6,2,2,4,2,2,2,4,7,2] ++
        [6,6,2,2,3,3,5,2,4,2,2,2,5,4,6,2, 2,5,2,2,4,4,6,2,2,4,2,2,2,4,7,2] ++
        [2,6,2,2,3,3,3,2,2,2,2,2,4,4,4,2, 2,6,2,2,4,4,4,2,2,5,2,2,2,5,2,2] ++
        [2,6,2,2,3,3,3,2,2,2,2,2,4,4,4,2, 2,5,2,2,4,4,4,2,2,4,2,2,4,4,4,2] ++
        [2,6,2,2,3,3,5,2,2,2,2,2,4,4,6,2, 2,5,2,2,4,4,6,2,2,4,2,2,2,4,7,2] ++
        [2,6,2,2,3,3,5,2,2,2,2,2,4,4,6,2, 2,5,2,2,4,4,6,2,2,4,2,2,2,4,7,2] : List Nat).getD b0.toNat 0) ∧
    (decodeA b0 b1 b2).defaultCycles true =
      (if b0 &&& 0x1F = 0x10 then 3 else (decodeA b0 b1 b2).defaultCycles false)) ∧
  (∀ b0 b1 b2 b3 : Byte,
    let i := decodeB b0 b1 b2 b3
    i.defaultCycles false =
      (if b0 = 0xCB then
        if b1 &&& 0x07 = 0x06 ∧ b1 ≠ 0x36 then (if b1 &&& 0xC0 = 0x40 then 12 else 15) else 8
      else if b0 = 0xED then
        if b1 &&& 0xC0 = 0x40 then
          (([12,12,15,20,8,14,8,9,12,12,15,20,8,14,8,9,12,12,15,20,8,8,8,9,12,12,15,20,8,8,8,9] ++
            [12,12,15,20,8,8,8,18,12,12,15,20,8,8,8,18,8,8,15,20,8,8,8,8,12,12,15,20,8,8,8,8] : List Nat).getD (b1.toNat - 0x40) 0)
        else if b1 &&& 0xE4 = 0xA0 then 16
        else 8
      else if b0 = 0xDD ∨ b0 = 0xFD then
        if b1 = 0xCB then (if b3 &&& 0xC7 = 0x46 then 20 else 23)
        else
          (([4,4,4,4,4,4,4,4,4,15,4,4,4,4,4,4,4,4,4,4,4,4,4,4,4,15,4,4,4,4,4,4] ++
            [4,14,20,10,4,4,4,4,4,15,20,10,4,4,4,4,4,4,4,4,23,23,19,4,4,15,4,4,4,4,4,4] ++
            [4,4,4,4,4,4,19,4,4,4,4,4,4,4,19,4,4,4,4,4,4,4,19,4,4,4,4,4,4,4,19,4] ++
            [4,4,4,4,4,4,19,4,4,4,4,4,4,4,19,4,19,19,19,19,19,19,4,19,4,4,4,4,4,4,19,4] ++
            [4,4,4,4,4,4,19,4,4,4,4,4,4,4,19,4,4,4,4,4,4,4,19,4,4,4,4,4,4,4,19,4] ++
            [4,4,4,4,4,4,19,4,4,4,4,4,4,4,19,4,4,4,4,4,4,4,19,4,4,4,4,4,4,4,19,4] ++
            [4,4,4,4,4,4,4,4,4,4,4,4,4,4,4,4,4,4,4,4,4,4,4,4,4,4,4,4,4,4,4,4] ++
            [4,14,4,23,4,15,4,4,4,8,4,4,4,4,4,4,4,4,4,4,4,4,4,4,4,10,4,4,4,4,4,4] : List Nat).getD b1.toNat 0)
      else
        (([4,10,7,6,4,4,7,4,4,11,7,6,4,4,7,4,8,10,7,6,4,4,7,4,12,11,7,6,4,4,7,4] ++
          [7,10,16,6,4,4,7,4,7,11,16,6,4,4,7,4,7,10,13,6,11,11,10,4,7,11,13,6,4,4,7,4] ++
          [4,4,4,4,4,4,7,4,4,4,4,4,4,4,7,4,4,4,4,4,4,4,7,4,4,4,4,4,4,4,7,4] ++
          [4,4,4,4,4,4,7,4,4,4,4,4,4,4,7,4,7,7,7,7,7,7,4,7,4,4,4,4,4,4,7,4] ++
          [4,4,4,4,4,4,7,4,4,4,4,4,4,4,7,4,4,4,4,4,4,4,7,4,4,4,4,4,4,4,7,4] ++
          [4,4,4,4,4,4,7,4,4,4,4,4,4,4,7,4,4,4,4,4,4,4,7,4,4,4,4,4,4,4,7,4] ++
          [5,10,10,10,10,11,7,11,5,10,10,0,10,17,7,11,5,10,10,11,10,11,7,11,5,4,10,11,10,0,7,11] ++
          [5,10,10,19,10,11,7,11,5,4,10,4,10,0,7,11,5,10,10,4,10,11,7,11,5,6,10,4,10,0,7,11] : List Nat).getD b0.toNat 0)) ∧
    i.defaultCycles true =
      (if b0 = 0x10 then 13
      else if b0 &&& 0xE7 = 0x20 then 12
      else if b0 &&& 0xC7 = 0xC0 then 11
      else if b0 &&& 0xC7 = 0xC4 then 17
      else if b0 = 0xED ∧ b1 &&& 0xF4 = 0xB0 then 21
      else i.defaultCycles false)) ∧
  ∀ (p : Params) (i : Instr) (v : Bool),
    ((∀ e ∈ p.cycles, e.opcode = opcodeKey i → e.variant ≠ v) → cyc p i v = i.defaultCycles v) ∧
    ∀ before e after, p.cycles = before ++ e :: after →
      (∀ x ∈ before, x.opcode = opcodeKey i → x.variant ≠ v) → e.opcode = opcodeKey i → e.variant = v → 1 ≤ e.cost →
      cyc p i v = e.cost

/-! ### CPU-A -/

/-- R151 to R153: the register gets the operand, N is its bit 7, Z says it is zero. -/
def Obligations.LoadsOfCpuA : Prop :=
  ∀ (m : AOperand) (s : State),
    let v := s.operand m
    let p := { s.cpuA.p with n := v.getLsbD 7, z := v == 0 }
    exec (.aLda m) s = .next (((s.setA v).setP p).passA (.aLda m)) ∧
    exec (.aLdx m) s = .next (((s.setX v).setP p).passA (.aLdx m)) ∧
    exec (.aLdy m) s = .next (((s.setY v).setP p).passA (.aLdy m))

/-- R154 to R156: one `write` of the register at the effective address, no flag; the byte reads back and every other byte
is as before. -/
def Obligations.StoresOfCpuA : Prop :=
  ∀ (m : AddrMode) (s : State) (b : Word),
    exec (.aSta m) s = .next ((s.write (s.ea m) s.cpuA.a).passA (.aSta m)) ∧
    exec (.aStx m) s = .next ((s.write (s.ea m) s.cpuA.x).passA (.aStx m)) ∧
    exec (.aSty m) s = .next ((s.write (s.ea m) s.cpuA.y).passA (.aSty m)) ∧
    ((s.write (s.ea m) s.cpuA.a).passA (.aSta m)).read b = (if b = s.ea m then s.cpuA.a else s.read b) ∧
    ((s.write (s.ea m) s.cpuA.x).passA (.aStx m)).read b = (if b = s.ea m then s.cpuA.x else s.read b) ∧
    ((s.write (s.ea m) s.cpuA.y).passA (.aSty m)).read b = (if b = s.ea m then s.cpuA.y else s.read b)

/-- R106 to R116: the effective addresses, with the wraps in page zero and modulo 65536. -/
def Obligations.EffectiveAddresses : Prop :=
  ∀ (s : State) (z : Byte) (nn : Word),
    (s.ea (.zp z)).toNat = z.toNat ∧
    (s.ea (.zpx z)).toNat = (z.toNat + s.cpuA.x.toNat) % 256 ∧
    (s.ea (.zpy z)).toNat = (z.toNat + s.cpuA.y.toNat) % 256 ∧
    s.ea (.abs nn) = nn ∧
    (s.ea (.absx nn)).toNat = (nn.toNat + s.cpuA.x.toNat) % 65536 ∧
    (s.ea (.absy nn)).toNat = (nn.toNat + s.cpuA.y.toNat) % 65536 ∧
    (s.ea (.indx z)).toNat =
      (s.read (BitVec.ofNat 16 ((z.toNat + s.cpuA.x.toNat) % 256))).toNat +
        256 * (s.read (BitVec.ofNat 16 ((z.toNat + s.cpuA.x.toNat + 1) % 256))).toNat ∧
    (s.ea (.indy z)).toNat =
      ((s.read (BitVec.ofNat 16 z.toNat)).toNat + 256 * (s.read (BitVec.ofNat 16 ((z.toNat + 1) % 256))).toNat +
        s.cpuA.y.toNat) % 65536

/-- R157 to R162: the six transfers; TXS changes no flag. -/
def Obligations.TransfersOfCpuA : Prop :=
  ∀ s : State,
    let nz := fun v : Byte => { s.cpuA.p with n := v.getLsbD 7, z := v == 0 }
    exec .aTax s = .next (((s.setX s.cpuA.a).setP (nz s.cpuA.a)).passA .aTax) ∧
    exec .aTay s = .next (((s.setY s.cpuA.a).setP (nz s.cpuA.a)).passA .aTay) ∧
    exec .aTxa s = .next (((s.setA s.cpuA.x).setP (nz s.cpuA.x)).passA .aTxa) ∧
    exec .aTya s = .next (((s.setA s.cpuA.y).setP (nz s.cpuA.y)).passA .aTya) ∧
    exec .aTsx s = .next (((s.setX s.cpuA.s).setP (nz s.cpuA.s)).passA .aTsx) ∧
    exec .aTxs s = .next ((s.setS s.cpuA.x).passA .aTxs)

/-- R163 to R166, R23: a push stores in page one and then decrements `S`, a pull increments `S` and then reads; PHP pushes
ones at bits 5 and 4, and PLP after it brings the flags back. -/
def Obligations.StackBytesOfCpuA : Prop :=
  ∀ s : State,
    let at_ := fun k : Byte => BitVec.ofNat 16 (0x0100 + k.toNat)
    let pulled := s.read (at_ (s.cpuA.s + 1))
    let p := s.cpuA.p
    let pbyte := BitVec.ofNat 8 (128 * p.n.toNat + 64 * p.v.toNat + 0x30 + 8 * p.d.toNat + 4 * p.i.toNat + 2 * p.z.toNat +
      p.c.toNat)
    exec .aPha s = .next (((s.write (at_ s.cpuA.s) s.cpuA.a).setS (s.cpuA.s - 1)).passA .aPha) ∧
    exec .aPhp s = .next (((s.write (at_ s.cpuA.s) pbyte).setS (s.cpuA.s - 1)).passA .aPhp) ∧
    exec .aPla s = .next ((((s.setS (s.cpuA.s + 1)).setA pulled).setP
      { p with n := pulled.getLsbD 7, z := pulled == 0 }).passA .aPla) ∧
    exec .aPlp s = .next (((s.setS (s.cpuA.s + 1)).setP
      { n := pulled.getLsbD 7, v := pulled.getLsbD 6, d := pulled.getLsbD 3, i := pulled.getLsbD 2,
        z := pulled.getLsbD 1, c := pulled.getLsbD 0 }).passA .aPlp) ∧
    ∃ t u, exec .aPhp s = .next t ∧ exec .aPlp t = .next u ∧ u.cpuA.p = p ∧ u.cpuA.s = s.cpuA.s

/-- R204, R205, R223 (1) to (3): the sum and the difference with carry, the overflow rule by operand signs, and SBC as ADC
of the one's complement; `D` is not consulted. -/
def Obligations.AddAndSubtractOfCpuA : Prop :=
  (∀ (m : AOperand) (s : State),
    let x := s.operand m
    let a := s.cpuA.a
    let c := s.cpuA.p.c.toNat
    (∃ t, exec (.aAdc m) s = .next t ∧ t = ((s.setA t.cpuA.a).setP t.cpuA.p).passA (.aAdc m) ∧
      t.cpuA.a.toNat + 256 * t.cpuA.p.c.toNat = a.toNat + x.toNat + c ∧
      (t.cpuA.p.v = true ↔ a.msb = x.msb ∧ t.cpuA.a.msb ≠ a.msb) ∧
      t.cpuA.p.n = t.cpuA.a.msb ∧ (t.cpuA.p.z = true ↔ t.cpuA.a = 0) ∧
      t.cpuA.p.d = s.cpuA.p.d ∧ t.cpuA.p.i = s.cpuA.p.i) ∧
    ∃ t, exec (.aSbc m) s = .next t ∧ t = ((s.setA t.cpuA.a).setP t.cpuA.p).passA (.aSbc m) ∧
      (t.cpuA.a.toNat : Int) = ((a.toNat : Int) - x.toNat - (1 - c)) % 256 ∧
      (t.cpuA.p.c = true ↔ x.toNat + (1 - c) ≤ a.toNat) ∧
      (t.cpuA.p.v = true ↔ a.msb ≠ x.msb ∧ t.cpuA.a.msb ≠ a.msb) ∧
      t.cpuA.p.n = t.cpuA.a.msb ∧ (t.cpuA.p.z = true ↔ t.cpuA.a = 0) ∧
      t.cpuA.p.d = s.cpuA.p.d ∧ t.cpuA.p.i = s.cpuA.p.i) ∧
  ∀ (n : Byte) (s : State), ∃ t u, exec (.aSbc (.imm n)) s = .next t ∧
    exec (.aAdc (.imm (n ^^^ 0xFF))) s = .next u ∧ t.cpuA = u.cpuA

/-- R206 to R212: logic, compares and BIT. -/
def Obligations.LogicAndComparesOfCpuA : Prop :=
  (∀ (m : AOperand) (s : State),
    let x := s.operand m
    let p := s.cpuA.p
    let logic := fun (i : Instr) (r : Byte) =>
      exec i s = .next (((s.setA r).setP { p with n := r.getLsbD 7, z := r == 0 }).passA i)
    let compare := fun (i : Instr) (r : Byte) =>
      exec i s = .next ((s.setP { p with c := decide (x.toNat ≤ r.toNat), z := r == x, n := (r - x).getLsbD 7 }).passA i)
    logic (.aAnd m) (s.cpuA.a &&& x) ∧ logic (.aOra m) (s.cpuA.a ||| x) ∧ logic (.aEor m) (s.cpuA.a ^^^ x) ∧
    compare (.aCmp m) s.cpuA.a ∧ compare (.aCpx m) s.cpuA.x ∧ compare (.aCpy m) s.cpuA.y) ∧
  ∀ (m : AddrMode) (s : State),
    let x := s.read (s.ea m)
    exec (.aBit m) s = .next ((s.setP { s.cpuA.p with z := s.cpuA.a &&& x == 0, n := x.getLsbD 7, v := x.getLsbD 6 }).passA
      (.aBit m))

/-- R213 to R218: the byte or the register plus or minus 1 modulo 256, N and Z from it, C and V kept. -/
def Obligations.IncrementsOfCpuA : Prop :=
  ∀ (m : AddrMode) (s : State),
    let nz := fun r : Byte => { s.cpuA.p with n := r.getLsbD 7, z := r == 0 }
    let x := s.read (s.ea m)
    exec (.aInc m) s = .next (((s.write (s.ea m) (x + 1)).setP (nz (x + 1))).passA (.aInc m)) ∧
    exec (.aDec m) s = .next (((s.write (s.ea m) (x - 1)).setP (nz (x - 1))).passA (.aDec m)) ∧
    exec .aInx s = .next (((s.setX (s.cpuA.x + 1)).setP (nz (s.cpuA.x + 1))).passA .aInx) ∧
    exec .aIny s = .next (((s.setY (s.cpuA.y + 1)).setP (nz (s.cpuA.y + 1))).passA .aIny) ∧
    exec .aDex s = .next (((s.setX (s.cpuA.x - 1)).setP (nz (s.cpuA.x - 1))).passA .aDex) ∧
    exec .aDey s = .next (((s.setY (s.cpuA.y - 1)).setP (nz (s.cpuA.y - 1))).passA .aDey)

/-- R219 to R222: the shifts and rotates as arithmetic on the operand, the carry in and the carry out, on the accumulator
and in memory. -/
def Obligations.ShiftsOfCpuA : Prop :=
  ∀ (g : ATarget) (s : State),
    let v := (s.target g).toNat
    let c := s.cpuA.p.c.toNat
    let done := fun (i : Instr) (law : Nat → Nat → Prop) => ∃ (t : State) (r : Byte) (out : Bool),
      exec i s = .next t ∧
      t = ((s.setTarget g r).setP { s.cpuA.p with n := r.getLsbD 7, z := r == 0, c := out }).passA i ∧
      law r.toNat out.toNat
    done (.aAsl g) (fun r out => r + 256 * out = 2 * v) ∧
    done (.aLsr g) (fun r out => 2 * r + out = v) ∧
    done (.aRol g) (fun r out => r + 256 * out = 2 * v + c) ∧
    done (.aRor g) (fun r out => 2 * r + out = v + 256 * c)

/-- R260 to R268: past the operand when the condition is false, to address-after-branch plus the signed offset when it
is true, and nothing else but the cost. -/
def Obligations.BranchesOfCpuA : Prop :=
  ∀ (e : Byte) (s : State),
    let p := s.cpuA.p
    let branch := fun (i : Instr) (cond : Bool) =>
      exec i s = .next { s with
        cpuA := { s.cpuA with
          pc := BitVec.ofInt 16 ((s.cpuA.pc.toNat : Int) + 2 + (if cond then e.toInt else 0)) }
        cycles := cyc s.params i cond }
    branch (.aBpl e) (!p.n) ∧ branch (.aBmi e) p.n ∧ branch (.aBvc e) (!p.v) ∧ branch (.aBvs e) p.v ∧
    branch (.aBcc e) (!p.c) ∧ branch (.aBcs e) p.c ∧ branch (.aBne e) (!p.z) ∧ branch (.aBeq e) p.z

/-- R270 to R273: the jumps, the page-wrap defect of the indirect one, the two bytes JSR pushes and RTS pulls. -/
def Obligations.JumpsAndSubroutinesOfCpuA : Prop :=
  ∀ (nn : Word) (s : State),
    let at_ := fun k : Byte => BitVec.ofNat 16 (0x0100 + k.toNat)
    let sp := s.cpuA.s
    let ret := s.cpuA.pc + 2
    exec (.aJmp nn) s = .next { s with cpuA := { s.cpuA with pc := nn }, cycles := cyc s.params (.aJmp nn) false } ∧
    exec (.aJmpInd nn) s = .next { s with
      cpuA := { s.cpuA with
        pc := BitVec.ofNat 16 ((s.read nn).toNat +
          256 * (s.read (BitVec.ofNat 16 (nn.toNat / 256 * 256 + (nn.toNat + 1) % 256))).toNat) }
      cycles := cyc s.params (.aJmpInd nn) false } ∧
    exec (.aJsr nn) s = .next { s.writeAll [(at_ sp, hiByte ret), (at_ (sp - 1), loByte ret)] with
      cpuA := { s.cpuA with s := sp - 2, pc := nn }, cycles := cyc s.params (.aJsr nn) false } ∧
    exec .aRts s = .next { s with
      cpuA := { s.cpuA with
        s := sp + 2
        pc := BitVec.ofNat 16 ((s.read (at_ (sp + 1))).toNat + 256 * (s.read (at_ (sp + 2))).toNat + 1) }
      cycles := cyc s.params .aRts false }

/-- R274 to R285: each flag instruction writes its one flag; the no-ops, the unknown opcodes, BRK and RTI move `PC` past
themselves and change nothing else but the cost; only the two-byte no-ops are two bytes long. -/
def Obligations.FlagInstructionsAndNoOpsOfCpuA : Prop :=
  ∀ (op n : Byte) (s : State),
    let p := s.cpuA.p
    let skip := fun (i : Instr) (len : Word) =>
      exec i s = .next { s with cpuA := { s.cpuA with pc := s.cpuA.pc + len }, cycles := cyc s.params i false }
    exec .aClc s = .next ((s.setP { p with c := false }).passA .aClc) ∧
    exec .aSec s = .next ((s.setP { p with c := true }).passA .aSec) ∧
    exec .aCli s = .next ((s.setP { p with i := false }).passA .aCli) ∧
    exec .aSei s = .next ((s.setP { p with i := true }).passA .aSei) ∧
    exec .aClv s = .next ((s.setP { p with v := false }).passA .aClv) ∧
    exec .aCld s = .next ((s.setP { p with d := false }).passA .aCld) ∧
    exec .aSed s = .next ((s.setP { p with d := true }).passA .aSed) ∧
    skip .aNop 1 ∧ skip (.aNop1 op) 1 ∧ skip (.aNop2 op n) 2 ∧ skip (.aUnk op) 1 ∧ skip .aBrk 1 ∧ skip .aRti 1

/-! ### Both CPUs -/

/-- R273, R460, R462, R464, R465, R475: a return executed when the stack pointer and the two pushed bytes are as the call
left them goes to the instruction after the call, the stack pointer back at its depth before the call. -/
def Obligations.CallAndReturnRoundTrip : Prop :=
  (∀ (nn : Word) (s u : State), ∃ t, exec (.aJsr nn) s = .next t ∧ t.cpuA.pc = nn ∧
    (u.cpuA.s = t.cpuA.s → u.read (stackAddrA s.cpuA.s) = t.read (stackAddrA s.cpuA.s) →
      u.read (stackAddrA (s.cpuA.s - 1)) = t.read (stackAddrA (s.cpuA.s - 1)) →
      ∃ w, exec .aRts u = .next w ∧ w.cpuA.pc = s.cpuA.pc + 3 ∧ w.cpuA.s = s.cpuA.s)) ∧
  ∀ (call : Instr) (target len : Word) (ret : Instr) (s u : State),
    ((∃ nn, call = .bCall nn ∧ target = nn ∧ len = 3) ∨
      (∃ cc nn, call = .bCallCc cc nn ∧ s.cond cc = true ∧ target = nn ∧ len = 3) ∨
      (∃ k : Fin 8, call = .bRst k ∧ target = BitVec.ofNat 16 (8 * k.val) ∧ len = 1)) →
    (ret = .bRet ∨ ret = .bReti ∨ ret = .bRetn ∨ ∃ cc, ret = .bRetCc cc ∧ u.cond cc = true) →
    ∃ t, exec call s = .next t ∧ t.cpuB.pc = target ∧
      (u.cpuB.sp = t.cpuB.sp → u.read (s.cpuB.sp - 1) = t.read (s.cpuB.sp - 1) →
        u.read (s.cpuB.sp - 2) = t.read (s.cpuB.sp - 2) →
        ∃ w, exec ret u = .next w ∧ w.cpuB.pc = s.cpuB.pc + len ∧ w.cpuB.sp = s.cpuB.sp)

/-! ### CPU-B -/

/-- R301 to R314: the 8-bit loads; no flag changes. -/
def Obligations.LoadsOfCpuB : Prop :=
  ∀ (r q : Reg8) (i : Index) (d n : Byte) (nn : Word) (s : State),
    let ea := BitVec.ofInt 16 (((s.index i).toNat : Int) + d.toInt)
    let load := fun (j : Instr) (x : Reg8) (v : Byte) => exec j s = .next ((s.setReg x v).passB j)
    let store := fun (j : Instr) (a : Word) (v : Byte) => exec j s = .next ((s.write a v).passB j)
    (load (.bLdRR r q) r (s.reg q) ∧ load (.bLdRN r n) r n ∧ load (.bLdRHl r) r (s.read s.hl) ∧
      load (.bLdRXy r i d) r (s.read ea) ∧ load .bLdABc .a (s.read s.bc) ∧ load .bLdADe .a (s.read s.de) ∧
      load (.bLdAMem nn) .a (s.read nn)) ∧
    store (.bLdHlR q) s.hl (s.reg q) ∧ store (.bLdXyR i d q) ea (s.reg q) ∧ store (.bLdHlN n) s.hl n ∧
    store (.bLdXyN i d n) ea n ∧ store .bLdBcA s.bc (s.reg .a) ∧ store .bLdDeA s.de (s.reg .a) ∧
    store (.bLdMemA nn) nn (s.reg .a) ∧
    ∀ v x, (s.setReg r v).reg x = if x = r then v else s.reg x

/-- R315 to R318: LD A,I and LD A,R with PV from `IFF2`, C and bits 5 and 3 kept; LD A,R reads `R` after its own advance by
2, LD R,A writes it after the advance. -/
def Obligations.SpecialLoadsOfCpuB : Prop :=
  ∀ s : State,
    let rNow := refreshed s.cpuB.r 2
    let got := fun (i : Instr) (v : Byte) => ∃ t, exec i s = .next t ∧
      t = ((s.setReg .a v).setF t.cpuB.main.f).passB i ∧
      t.flags = { s := v.msb, z := v == 0, h := false, pv := s.cpuB.iff2, n := false, c := s.flags.c } ∧
      t.cpuB.main.f.getLsbD 5 = s.cpuB.main.f.getLsbD 5 ∧ t.cpuB.main.f.getLsbD 3 = s.cpuB.main.f.getLsbD 3
    got .bLdAI s.cpuB.i ∧ got .bLdARefresh rNow ∧
    (∃ t, exec .bLdIA s = .next t ∧ t = { s.passB .bLdIA with cpuB := { (s.passB .bLdIA).cpuB with i := s.reg .a } }) ∧
    ∃ t, exec .bLdRefreshA s = .next t ∧
      t = { s.passB .bLdRefreshA with cpuB := { (s.passB .bLdRefreshA).cpuB with r := s.reg .a } }

/-- R320 to R329: the 16-bit loads; memory words low byte first, the second address modulo 65536; no flag changes. -/
def Obligations.WordLoadsOfCpuB : Prop :=
  ∀ (p : Pair) (i : Index) (nn : Word) (s : State),
    let w := BitVec.ofNat 16 ((s.read nn).toNat + 256 * (s.read (nn + 1)).toNat)
    let store := fun (j : Instr) (v : Word) =>
      exec j s = .next (((s.write nn (BitVec.ofNat 8 v.toNat)).write (nn + 1) (BitVec.ofNat 8 (v.toNat / 256))).passB j)
    exec (.bLdDdNn p nn) s = .next ((s.setPair p nn).passB (.bLdDdNn p nn)) ∧
    exec (.bLdXyNn i nn) s = .next ((s.setIndex i nn).passB (.bLdXyNn i nn)) ∧
    exec (.bLdHlMem nn) s = .next ((s.setHl w).passB (.bLdHlMem nn)) ∧
    exec (.bLdDdMem p nn) s = .next ((s.setPair p w).passB (.bLdDdMem p nn)) ∧
    exec (.bLdXyMem i nn) s = .next ((s.setIndex i w).passB (.bLdXyMem i nn)) ∧
    store (.bLdMemHl nn) s.hl ∧ store (.bLdMemDd nn p) (s.pair p) ∧ store (.bLdMemXy nn i) (s.index i) ∧
    exec .bLdSpHl s = .next ((s.setSp s.hl).passB .bLdSpHl) ∧
    exec (.bLdSpXy i) s = .next ((s.setSp (s.index i)).passB (.bLdSpXy i)) ∧
    ∀ v, (s.setPair p v).pair p = v

/-- R330 to R333: PUSH stores the high byte at `SP - 1`, then the low byte at `SP - 2`; POP loads the word and adds 2; a
POP right after a PUSH gives the pair back, all eight bits of `F` with `AF`. -/
def Obligations.PushAndPopOfCpuB : Prop :=
  ∀ (q : StackPair) (i : Index) (s : State),
    let sp := s.cpuB.sp
    let push := fun (j : Instr) (v : Word) =>
      exec j s = .next ((((s.write (sp - 1) (hiByte v)).write (sp - 2) (loByte v)).setSp (sp - 2)).passB j)
    let w := word (s.read (sp + 1)) (s.read sp)
    push (.bPush q) (s.stackPair q) ∧ push (.bPushXy i) (s.index i) ∧
    exec (.bPop q) s = .next (((s.setStackPair q w).setSp (sp + 2)).passB (.bPop q)) ∧
    exec (.bPopXy i) s = .next (((s.setIndex i w).setSp (sp + 2)).passB (.bPopXy i)) ∧
    ∃ t u, exec (.bPush q) s = .next t ∧ exec (.bPop q) t = .next u ∧ u.stackPair q = s.stackPair q ∧ u.cpuB.sp = sp

/-- R336 to R340, R28: the exchanges, EX AF,AF' and EXX undo themselves, and no other instruction changes the shadow
bank. -/
def Obligations.ExchangesOfCpuB : Prop :=
  (∀ (i : Index) (s : State),
    let m := s.cpuB.main
    let a := s.cpuB.alt
    let sp := s.cpuB.sp
    let top := word (s.read (sp + 1)) (s.read sp)
    let swapped := fun w : Word => (s.write (sp + 1) (hiByte w)).write sp (loByte w)
    exec .bExDeHl s = .next ((s.setMain { m with d := m.h, e := m.l, h := m.d, l := m.e }).passB .bExDeHl) ∧
    (∃ t u, exec .bExAf s = .next t ∧
      t = { s with cpuB := { s.cpuB with main := { m with a := a.a, f := a.f },
                                         alt := { a with a := m.a, f := m.f } } }.passB .bExAf ∧
      exec .bExAf t = .next u ∧ u.cpuB.main = m ∧ u.cpuB.alt = a) ∧
    (∃ t u, exec .bExx s = .next t ∧
      t = { s with cpuB := { s.cpuB with
              main := { m with b := a.b, c := a.c, d := a.d, e := a.e, h := a.h, l := a.l },
              alt := { a with b := m.b, c := m.c, d := m.d, e := m.e, h := m.h, l := m.l } } }.passB .bExx ∧
      exec .bExx t = .next u ∧ u.cpuB.main = m ∧ u.cpuB.alt = a) ∧
    exec .bExSpHl s = .next (((swapped s.hl).setHl top).passB .bExSpHl) ∧
    exec (.bExSpXy i) s = .next (((swapped (s.index i)).setIndex i top).passB (.bExSpXy i))) ∧
  ∀ (i : Instr) (s t : State), exec i s = .next t → i ≠ .bExAf → i ≠ .bExx → t.cpuB.alt = s.cpuB.alt

/-- R341 to R344: one byte from `(HL)` to `(DE)`, the three pairs stepped, H and N cleared, PV while bytes remain; the
repeating forms stay on themselves while `BC` is not 0. -/
def Obligations.BlockTransferOfCpuB : Prop :=
  ∀ s : State,
    let left := s.bc - 1
    let moved := fun step : Word =>
      ((((s.write s.de (s.read s.hl)).setHl (s.hl + step)).setDe (s.de + step)).setBc left).setFlags
        { s.flags with h := false, n := false, pv := left != 0 }
    let again := left != 0
    let pc := if again then s.cpuB.pc else s.cpuB.pc + 2
    exec .bLdi s = .next ((moved 1).passB .bLdi) ∧
    exec .bLdd s = .next ((moved 0xFFFF).passB .bLdd) ∧
    exec .bLdir s = .next ((moved 1).goB .bLdir again pc) ∧
    exec .bLddr s = .next ((moved 0xFFFF).goB .bLddr again pc)

/-- R345 to R348: the byte at `(HL)` compared with `A`, `HL` and `BC` stepped, C kept; the repeating forms stay on
themselves while `BC` is not 0 and no match was found. -/
def Obligations.BlockSearchOfCpuB : Prop :=
  ∀ s : State,
    let left := s.bc - 1
    let a := s.reg .a
    let m := s.read s.hl
    let compared := fun step : Word =>
      ((s.setHl (s.hl + step)).setBc left).setFlags
        { s := (a - m).msb, z := a == m, h := decide (a.toNat % 16 < m.toNat % 16), pv := left != 0, n := true,
          c := s.flags.c }
    let again := left != 0 && a != m
    let pc := if again then s.cpuB.pc else s.cpuB.pc + 2
    exec .bCpi s = .next ((compared 1).passB .bCpi) ∧
    exec .bCpd s = .next ((compared 0xFFFF).passB .bCpd) ∧
    exec .bCpir s = .next ((compared 1).goB .bCpir again pc) ∧
    exec .bCpdr s = .next ((compared 0xFFFF).goB .bCpdr again pc)

/-- R370 to R375, R418 (1) to (3): ADD, ADC, SUB and SBC as exact arithmetic; H is the carry out of bit 3, PV says that the
signed result does not fit. -/
def Obligations.AddAndSubtractOfCpuB : Prop :=
  ∀ (m : Src8) (s : State),
    let x := s.src8 m
    let a := s.reg .a
    let done := fun (i : Instr) (law : Byte → FlagSet → Prop) => ∃ t, exec i s = .next t ∧
      t = ((s.setReg .a (t.reg .a)).setFlags t.flags).passB i ∧
      t.flags.s = (t.reg .a).msb ∧ (t.flags.z = true ↔ t.reg .a = 0) ∧ law (t.reg .a) t.flags
    let added := fun (c : Nat) (r : Byte) (f : FlagSet) =>
      r.toNat + 256 * f.c.toNat = a.toNat + x.toNat + c ∧
      (f.h = true ↔ 16 ≤ a.toNat % 16 + x.toNat % 16 + c) ∧
      (f.pv = true ↔ r.toInt ≠ a.toInt + x.toInt + c) ∧ f.n = false
    let subtracted := fun (c : Nat) (r : Byte) (f : FlagSet) =>
      (r.toNat : Int) - 256 * f.c.toNat = (a.toNat : Int) - x.toNat - c ∧
      (f.h = true ↔ a.toNat % 16 < x.toNat % 16 + c) ∧
      (f.pv = true ↔ r.toInt ≠ a.toInt - x.toInt - c) ∧ f.n = true
    done (.bAdd m) (added 0) ∧ done (.bAdc m) (added s.flags.c.toNat) ∧
    done (.bSub m) (subtracted 0) ∧ done (.bSbc m) (subtracted s.flags.c.toNat)

/-- R376 to R379: AND, XOR and OR with parity, H set by AND alone, C and N cleared; CP sets the flags of SUB and nothing
else. -/
def Obligations.LogicAndCompareOfCpuB : Prop :=
  ∀ (m : Src8) (s : State),
    let x := s.src8 m
    let a := s.reg .a
    let logic := fun (i : Instr) (r : Byte) (h : Bool) =>
      exec i s = .next (((s.setReg .a r).setFlags
        { s := r.msb, z := r == 0, h := h, pv := decide ((List.range 8).countP r.getLsbD % 2 = 0), n := false,
          c := false }).passB i)
    logic (.bAnd m) (a &&& x) true ∧ logic (.bXor m) (a ^^^ x) false ∧ logic (.bOr m) (a ||| x) false ∧
    ∃ t u, exec (.bCp m) s = .next t ∧ exec (.bSub m) s = .next u ∧ t = (s.setFlags u.flags).passB (.bCp m) ∧
      (t.flags.z = true ↔ a = x) ∧ (t.flags.c = true ↔ a.toNat < x.toNat)

/-- R380, R381: INC and DEC on a register or a byte of memory; C is kept. -/
def Obligations.IncrementsOfCpuB : Prop :=
  ∀ (v : Loc8) (s : State),
    let x := s.loc8 v
    exec (.bInc v) s = .next (((s.setLoc8 v (x + 1)).setFlags
      { s := (x + 1).msb, z := x == 0xFF, h := decide (x.toNat % 16 = 15), pv := x == 0x7F, n := false,
        c := s.flags.c }).passB (.bInc v)) ∧
    exec (.bDec v) s = .next (((s.setLoc8 v (x - 1)).setFlags
      { s := (x - 1).msb, z := x == 1, h := decide (x.toNat % 16 = 0), pv := x == 0x80, n := true,
        c := s.flags.c }).passB (.bDec v))

/-- DAA makes ADD and SUB decimal (R382): after the sum or the difference of two packed decimal bytes it gives the two
decimal digits of the result, and C is the decimal carry or borrow. -/
def Obligations.DecimalAdjustIsDecimalArithmetic : Prop :=
  ∀ (x y : Fin 100) (s : State),
    let bcd := fun n : Nat => BitVec.ofNat 8 (16 * (n / 10) + n % 10)
    s.reg .a = bcd x.val → s.reg .b = bcd y.val →
    (∃ t u, exec (.bAdd (.reg .b)) s = .next t ∧ exec .bDaa t = .next u ∧
      u.reg .a = bcd ((x.val + y.val) % 100) ∧ (u.flags.c = true ↔ 100 ≤ x.val + y.val)) ∧
    ∃ t u, exec (.bSub (.reg .b)) s = .next t ∧ exec .bDaa t = .next u ∧
      u.reg .a = bcd ((100 + x.val - y.val) % 100) ∧ (u.flags.c = true ↔ x.val < y.val)

/-- R382 to R386: DAA with its correction, CPL, NEG, CCF and SCF. -/
def Obligations.AccumulatorAndFlagOperationsOfCpuB : Prop :=
  ∀ s : State,
    let a := s.reg .a
    let f := s.flags
    let corr := (if f.h = true ∨ 9 < a.toNat % 16 then 6 else 0) + (if f.c = true ∨ 0x99 < a.toNat then 0x60 else 0)
    let r := BitVec.ofInt 8 (if f.n then (a.toNat : Int) - corr else a.toNat + corr)
    exec .bDaa s = .next (((s.setReg .a r).setFlags
      { s := r.msb, z := r == 0, pv := decide ((List.range 8).countP r.getLsbD % 2 = 0), n := f.n,
        h := if f.n then f.h && decide (a.toNat % 16 < 6) else decide (9 < a.toNat % 16),
        c := f.c || decide (0x99 < a.toNat) }).passB .bDaa) ∧
    exec .bCpl s = .next (((s.setReg .a (BitVec.ofNat 8 (255 - a.toNat))).setFlags { f with h := true, n := true }).passB
      .bCpl) ∧
    exec .bNeg s = .next (((s.setReg .a (-a)).setFlags
      { s := (-a).msb, z := a == 0, h := decide (a.toNat % 16 ≠ 0), pv := a == 0x80, n := true,
        c := a != 0 }).passB .bNeg) ∧
    exec .bCcf s = .next ((s.setFlags { f with h := f.c, c := !f.c, n := false }).passB .bCcf) ∧
    exec .bScf s = .next ((s.setFlags { f with h := false, c := true, n := false }).passB .bScf)

/-- R390 to R397: the 16-bit sums and differences as exact arithmetic; ADD keeps S, Z and PV, the increments keep every
flag. -/
def Obligations.WordArithmeticOfCpuB : Prop :=
  ∀ (p : Pair) (i : Index) (k : IndexPair) (s : State),
    let f := s.flags
    let sum := fun (j : Instr) (set : Word → State) (a w : Word) => ∃ (t : State) (r : Word), exec j s = .next t ∧
      t = ((set r).setFlags { f with h := t.flags.h, n := false, c := t.flags.c }).passB j ∧
      r.toNat + 65536 * t.flags.c.toNat = a.toNat + w.toNat ∧
      (t.flags.h = true ↔ 4096 ≤ a.toNat % 4096 + w.toNat % 4096)
    let a := s.hl
    let w := s.pair p
    let c := f.c.toNat
    sum (.bAddHl p) s.setHl s.hl w ∧ sum (.bAddXy i k) (s.setIndex i) (s.index i) (s.indexPair i k) ∧
    (∃ t, exec (.bAdcHl p) s = .next t ∧ t = ((s.setHl t.hl).setFlags t.flags).passB (.bAdcHl p) ∧
      t.hl.toNat + 65536 * t.flags.c.toNat = a.toNat + w.toNat + c ∧
      t.flags.s = t.hl.msb ∧ (t.flags.z = true ↔ t.hl = 0) ∧
      (t.flags.h = true ↔ 4096 ≤ a.toNat % 4096 + w.toNat % 4096 + c) ∧
      (t.flags.pv = true ↔ t.hl.toInt ≠ a.toInt + w.toInt + c) ∧ t.flags.n = false) ∧
    (∃ t, exec (.bSbcHl p) s = .next t ∧ t = ((s.setHl t.hl).setFlags t.flags).passB (.bSbcHl p) ∧
      (t.hl.toNat : Int) - 65536 * t.flags.c.toNat = (a.toNat : Int) - w.toNat - c ∧
      t.flags.s = t.hl.msb ∧ (t.flags.z = true ↔ t.hl = 0) ∧
      (t.flags.h = true ↔ a.toNat % 4096 < w.toNat % 4096 + c) ∧
      (t.flags.pv = true ↔ t.hl.toInt ≠ a.toInt - w.toInt - c) ∧ t.flags.n = true) ∧
    exec (.bIncSs p) s = .next ((s.setPair p (w + 1)).passB (.bIncSs p)) ∧
    exec (.bDecSs p) s = .next ((s.setPair p (w - 1)).passB (.bDecSs p)) ∧
    exec (.bIncXy i) s = .next ((s.setIndex i (s.index i + 1)).passB (.bIncXy i)) ∧
    exec (.bDecXy i) s = .next ((s.setIndex i (s.index i - 1)).passB (.bDecXy i))

/-- R400 to R403: the accumulator rotates as arithmetic; S, Z and PV are kept. -/
def Obligations.AccumulatorRotatesOfCpuB : Prop :=
  ∀ s : State,
    let v := (s.reg .a).toNat
    let c := s.flags.c.toNat
    let done := fun (i : Instr) (law : Nat → Nat → Prop) => ∃ (t : State) (r : Byte) (out : Bool),
      exec i s = .next t ∧
      t = ((s.setReg .a r).setFlags { s.flags with h := false, n := false, c := out }).passB i ∧ law r.toNat out.toNat
    done .bRlca (fun r out => r + 256 * out = 2 * v + out) ∧
    done .bRla (fun r out => r + 256 * out = 2 * v + c) ∧
    done .bRrca (fun r out => 2 * r + out = v + 256 * out) ∧
    done .bRra (fun r out => 2 * r + out = v + 256 * c)

/-- R404 to R411: the CB rotates and shifts as arithmetic, on a register and in memory, with S, Z and parity of the
result. -/
def Obligations.ShiftsOfCpuB : Prop :=
  ∀ (l : Loc8) (s : State),
    let v := (s.loc8 l).toNat
    let c := s.flags.c.toNat
    let done := fun (i : Instr) (law : Nat → Nat → Prop) => ∃ (t : State) (r : Byte) (out : Bool),
      exec i s = .next t ∧
      t = ((s.setLoc8 l r).setFlags
        { s := r.msb, z := r == 0, h := false, pv := decide ((List.range 8).countP r.getLsbD % 2 = 0), n := false,
          c := out }).passB i ∧
      law r.toNat out.toNat
    done (.bRlc l) (fun r out => r + 256 * out = 2 * v + out) ∧
    done (.bRrc l) (fun r out => 2 * r + out = v + 256 * out) ∧
    done (.bRl l) (fun r out => r + 256 * out = 2 * v + c) ∧
    done (.bRr l) (fun r out => 2 * r + out = v + 256 * c) ∧
    done (.bSla l) (fun r out => r + 256 * out = 2 * v) ∧
    done (.bSra l) (fun r out => 2 * r + out = v + 256 * (v / 128)) ∧
    done (.bSrl l) (fun r out => 2 * r + out = v)

/-- R412, R413: RLD and RRD rotate the low digit of `A` and the two digits of `(HL)`; C is kept. -/
def Obligations.DigitRotatesOfCpuB : Prop :=
  ∀ s : State,
    let a := (s.reg .a).toNat
    let m := (s.read s.hl).toNat
    let done := fun (i : Instr) (mem acc : Nat) =>
      let r := BitVec.ofNat 8 acc
      exec i s = .next ((((s.write s.hl (BitVec.ofNat 8 mem)).setReg .a r).setFlags
        { s := r.msb, z := r == 0, h := false, pv := decide ((List.range 8).countP r.getLsbD % 2 = 0), n := false,
          c := s.flags.c }).passB i)
    done .bRld (m % 16 * 16 + a % 16) (a / 16 * 16 + m / 16) ∧
    done .bRrd (a % 16 * 16 + m / 16) (a / 16 * 16 + m % 16)

/-- R414 to R416: BIT (S and PV by decision D24), SET and RES; SET and RES change no flag and no other bit. -/
def Obligations.BitOperationsOfCpuB : Prop :=
  ∀ (b : Fin 8) (l : Loc8) (s : State),
    let v := s.loc8 l
    exec (.bBit b l) s = .next ((s.setFlags
      { s := decide (b = 7) && v.getLsbD 7, z := !v.getLsbD b.val, h := true, pv := !v.getLsbD b.val, n := false,
        c := s.flags.c }).passB (.bBit b l)) ∧
    (∃ r : Byte, exec (.bSet b l) s = .next ((s.setLoc8 l r).passB (.bSet b l)) ∧
      ∀ k : Fin 8, r.getLsbD k.val = (decide (k = b) || v.getLsbD k.val)) ∧
    ∃ r : Byte, exec (.bRes b l) s = .next ((s.setLoc8 l r).passB (.bRes b l)) ∧
      ∀ k : Fin 8, r.getLsbD k.val = (!decide (k = b) && v.getLsbD k.val)

/-- R450 to R457: the jumps of CPU-B and the conditions they test; no flag changes, DJNZ changes `B` alone. -/
def Obligations.JumpsOfCpuB : Prop :=
  ∀ (cc : Cond) (jc : JrCond) (e : Byte) (nn : Word) (i : Index) (s : State),
    let f := s.flags
    let pc := s.cpuB.pc
    let near := fun taken : Bool => BitVec.ofInt 16 ((pc.toNat : Int) + 2 + (if taken then e.toInt else 0))
    let holds := match cc with
      | .nz => !f.z | .z => f.z | .nc => !f.c | .c => f.c | .po => !f.pv | .pe => f.pv | .p => !f.s | .m => f.s
    let holdsJr := match jc with
      | .nz => !f.z | .z => f.z | .nc => !f.c | .c => f.c
    let b := s.reg .b - 1
    exec (.bJp nn) s = .next (s.goB (.bJp nn) false nn) ∧
    exec (.bJpCc cc nn) s = .next (s.goB (.bJpCc cc nn) false (if holds then nn else pc + 3)) ∧
    exec (.bJr e) s = .next (s.goB (.bJr e) false (near true)) ∧
    exec (.bJrCc jc e) s = .next (s.goB (.bJrCc jc e) holdsJr (near holdsJr)) ∧
    exec .bJpHl s = .next (s.goB .bJpHl false s.hl) ∧
    exec (.bJpXy i) s = .next (s.goB (.bJpXy i) false (s.index i)) ∧
    exec (.bDjnz e) s = .next ((s.setReg .b b).goB (.bDjnz e) (b != 0) (near (b != 0)))

/-- R460 to R475: calls push the address of the next instruction, returns pop `PC`, RETN also copies `IFF2` to `IFF1`, RST
goes to page zero; a condition that does not hold passes by. -/
def Obligations.CallsAndReturnsOfCpuB : Prop :=
  ∀ (cc : Cond) (nn : Word) (k : Fin 8) (s : State),
    let sp := s.cpuB.sp
    let pushed := fun w : Word => ((s.write (sp - 1) (hiByte w)).write (sp - 2) (loByte w)).setSp (sp - 2)
    let top := word (s.read (sp + 1)) (s.read sp)
    let popped := s.setSp (sp + 2)
    let pc := s.cpuB.pc
    exec (.bCall nn) s = .next ((pushed (pc + 3)).goB (.bCall nn) false nn) ∧
    exec (.bCallCc cc nn) s =
      .next (if s.cond cc then (pushed (pc + 3)).goB (.bCallCc cc nn) true nn else s.goB (.bCallCc cc nn) false (pc + 3)) ∧
    exec .bRet s = .next (popped.goB .bRet false top) ∧
    exec (.bRetCc cc) s =
      .next (if s.cond cc then popped.goB (.bRetCc cc) true top else s.goB (.bRetCc cc) false (pc + 1)) ∧
    exec .bReti s = .next (popped.goB .bReti false top) ∧
    exec .bRetn s =
      .next ({ popped with cpuB := { popped.cpuB with iff1 := s.cpuB.iff2 } }.goB .bRetn false top) ∧
    exec (.bRst k) s = .next ((pushed (pc + 1)).goB (.bRst k) false (BitVec.ofNat 16 (8 * k.val)))

/-- R85, R86, R480 to R485: the port each input reads, what it does with the byte, and that the block forms read the port
before `B` is decremented; a port answers 0xFF unless the parameters list it, and else what its first entry says (the list
is the model's form of `IO_READ`, log entry 6). -/
def Obligations.PortInputOfCpuB : Prop :=
  ∀ (n : Byte) (r : Reg8) (s : State),
    let v := ioRead s.params s.bc
    let b := s.reg .b - 1
    let block := fun step : Word =>
      (((s.write s.hl v).setHl (s.hl + step)).setReg .b b).setFlags { s.flags with z := b == 0, n := true }
    let again := b != 0
    let pc := if again then s.cpuB.pc else s.cpuB.pc + 2
    exec (.bInAN n) s = .next ((s.setReg .a (ioRead s.params (word (s.reg .a) n))).passB (.bInAN n)) ∧
    exec (.bInRC r) s = .next (((s.setReg r v).setFlags
      { s := v.msb, z := v == 0, h := false, pv := decide ((List.range 8).countP v.getLsbD % 2 = 0), n := false,
        c := s.flags.c }).passB (.bInRC r)) ∧
    exec .bIni s = .next ((block 1).passB .bIni) ∧
    exec .bInd s = .next ((block 0xFFFF).passB .bInd) ∧
    exec .bInir s = .next ((block 1).goB .bInir again pc) ∧
    exec .bIndr s = .next ((block 0xFFFF).goB .bIndr again pc) ∧
    ∀ port : Word,
      ((∀ e ∈ s.params.ioRead, e.1 ≠ port.toNat) → ioRead s.params port = 0xFF) ∧
      ∀ before answer after, s.params.ioRead = before ++ (port.toNat, answer) :: after →
        (∀ e ∈ before, e.1 ≠ port.toNat) → ioRead s.params port = answer

/-- R86, R486 to R491: the port and the byte of each output; the block forms decrement `B` before the port is formed; no
output changes memory. -/
def Obligations.PortOutputOfCpuB : Prop :=
  ∀ (n : Byte) (r : Reg8) (s : State) (port : Word) (v : Byte),
    let b := s.reg .b - 1
    let block := fun step : Word =>
      (((s.ioWrite (word b (s.reg .c)) (s.read s.hl)).setHl (s.hl + step)).setReg .b b).setFlags
        { s.flags with z := b == 0, n := true }
    let again := b != 0
    let pc := if again then s.cpuB.pc else s.cpuB.pc + 2
    exec (.bOutNA n) s = .next ((s.ioWrite (word (s.reg .a) n) (s.reg .a)).passB (.bOutNA n)) ∧
    exec (.bOutCR r) s = .next ((s.ioWrite s.bc (s.reg r)).passB (.bOutCR r)) ∧
    exec .bOuti s = .next ((block 1).passB .bOuti) ∧
    exec .bOutd s = .next ((block 0xFFFF).passB .bOutd) ∧
    exec .bOtir s = .next ((block 1).goB .bOtir again pc) ∧
    exec .bOtdr s = .next ((block 0xFFFF).goB .bOtdr again pc) ∧
    s.ioWrite port v = { s with aySel := (s.ioWrite port v).aySel, shadow := (s.ioWrite port v).shadow }

/-- R500 to R508, R417, R520: NOP, HALT, DI, EI, IM and the four unknown forms with their lengths. -/
def Obligations.ControlAndUnknownOfCpuB : Prop :=
  ∀ (m : IntMode) (k : Fin 8) (i : Index) (d x : Byte) (s : State),
    let pc := s.cpuB.pc
    let nothing := fun (j : Instr) (target : Word) => exec j s = .next (s.goB j false target)
    let interrupts := fun on : Bool => { s with cpuB := { s.cpuB with iff1 := on, iff2 := on } }
    nothing .bNop (pc + 1) ∧ nothing .bHalt pc ∧
    nothing (.bUnkCb k) (pc + 2) ∧ nothing (.bUnkEd x) (pc + 2) ∧ nothing (.bUnkXy i) (pc + 1) ∧
    nothing (.bUnkXycb i d x) (pc + 4) ∧
    exec .bDi s = .next ((interrupts false).goB .bDi false (pc + 1)) ∧
    exec .bEi s = .next ((interrupts true).goB .bEi false (pc + 1)) ∧
    exec (.bIm m) s = .next ({ s with cpuB := { s.cpuB with im := m } }.goB (.bIm m) false (pc + 2))

/-! ### The chips -/

/-- R534 (decision D30): a select write loads `AYSEL`, a data write goes to the selected register when it is below 16, any
other port does nothing; for another chip no port write does anything; a port without an entry of its own is judged by
its high byte, another by its first entry (log entry 6). Two points are the model's choice and not the rule's: the list
form of the map (log entry 6, DESIGN CHOICE), and that a data write to a register below 16 but past the end of a register
file of fewer than 16 bytes is stored nowhere (log entry 11, DESIGN CHOICE). -/
def Obligations.AyPortDevice : Prop :=
  ∀ (s : State) (port : Word) (v : Byte),
    s.ioWrite port v =
      (if s.params.chip = .ay then
        match portRole s.params port with
        | .aySelect => { s with aySel := v }
        | .ayData => if s.aySel.toNat < 16 then { s with shadow := s.shadow.set s.aySel.toNat v } else s
        | .unmapped => s
      else s) ∧
    ((∀ e ∈ s.params.portMap, e.1 ≠ port.toNat) →
      portRole s.params port =
        (if port.toNat / 256 = 0xFF then .aySelect else if port.toNat / 256 = 0xBF then .ayData else .unmapped)) ∧
    ∀ before role after, s.params.portMap = before ++ (port.toNat, role) :: after →
      (∀ e ∈ before, e.1 ≠ port.toNat) → portRole s.params port = role

/-- R541 to R543, R546, R549, R552 with the default `GATE_NEEDS_VOLUME` and tone predicate: gate, raw pitch and volume of
every voice of every chip. Each `reg[i]` is the byte of the register file; past its end it is a free value (log entry
11), and the statement holds for every one. -/
def Obligations.VoicesOfEveryChip : Prop :=
  ∀ (p : Params) (sh : List Byte), p.gateNeedsVolume = true →
    (∀ v : Byte, p.pokeyTone.getLsbD v.toNat = (v &&& 0xA0 == 0xA0)) →
    (∀ k v, sh[k]? = some v → regAt sh k = v) ∧
    let reg := fun k : Nat => (regAt sh k).toNat
    let voice := fun (on : Prop) (pitch : Nat) (volume : Option Nat) (w : VoiceState) =>
      (w.noteOn = true ↔ on) ∧ w.pitchRegisterValue.toNat = pitch ∧ w.volume.map BitVec.toNat = volume
    let pulse := fun n : Nat => voice ((regAt sh 0x15).getLsbD n = true ∧ 0 < reg (4 * n) % 16)
      (reg (4 * n + 2) + 256 * (reg (4 * n + 3) % 8)) (some (reg (4 * n) % 16))
    let sid := fun v : Nat => voice (reg (7 * v + 4) % 2 = 1) (reg (7 * v) + 256 * reg (7 * v + 1)) none
    let pokey := fun c : Nat => voice ((regAt sh (2 * c + 1)) &&& 0xA0 = 0xA0 ∧ 0 < reg (2 * c + 1) % 16) (reg (2 * c))
      (some (reg (2 * c + 1) % 16))
    let ay := fun c : Nat =>
      let period := reg (2 * c) + 256 * (reg (2 * c + 1) % 16)
      voice ((regAt sh 7).getLsbD c = false ∧ 0 < reg (8 + c) % 16 ∧ 0 < period) period (some (reg (8 + c) % 16))
    match p.chip with
    | .nesApu => ∃ v0 v1 v2 v3, deriveVoices p sh = [v0, v1, v2, v3] ∧ pulse 0 v0 ∧ pulse 1 v1 ∧
        voice (reg 8 % 128 ≠ 0) (reg 0x0A + 256 * (reg 0x0B % 8)) none v2 ∧
        voice (0 < reg 0x0C % 16) 0 (some (reg 0x0C % 16)) v3
    | .sid => ∃ v0 v1 v2, deriveVoices p sh = [v0, v1, v2] ∧ sid 0 v0 ∧ sid 1 v1 ∧ sid 2 v2
    | .pokey => ∃ v0 v1 v2 v3, deriveVoices p sh = [v0, v1, v2, v3] ∧ pokey 0 v0 ∧ pokey 1 v1 ∧ pokey 2 v2 ∧ pokey 3 v3
    | .ay => ∃ v0 v1 v2, deriveVoices p sh = [v0, v1, v2] ∧ ay 0 v0 ∧ ay 1 v1 ∧ ay 2 v2

/-- R544, R547, R550, R553: the frequency formulas, as rational numbers of hertz. -/
def Obligations.FrequencyFormulas : Prop :=
  ∀ (p : Params) (sh : List Byte) (n : Nat),
    let q := fun f : Hz => (f.num : ℚ) / f.den
    let ctl := regAt sh 8
    let base := q p.pokeyClock / (if ctl.getLsbD 0 then 114 else 28)
    ((nesFrequency p 0 n).map q = some (q p.nesClock / (16 * (n + 1))) ∧
      (nesFrequency p 1 n).map q = some (q p.nesClock / (16 * (n + 1))) ∧
      (nesFrequency p 2 n).map q = some (q p.nesClock / (32 * (n + 1)))) ∧
    q (sidFrequency p n) = n * q p.sidClock / 16777216 ∧
    (∀ c, q (pokeyFrequency p sh c n) =
      if (c = 0 ∧ ctl.getLsbD 6 = true) ∨ (c = 2 ∧ ctl.getLsbD 5 = true) then q p.pokeyClock / (2 * (n + 4))
      else base / (2 * (n + 1))) ∧
    (ayFrequency p n).map q = if n = 0 then none else some (q p.ayClock / (16 * n))

/-- R554: `frequencyToNote` is the real formula `floor(69 + 12 * log2(f / 440) + 1/2)` between 20 Hz and 20 kHz inclusive,
and none outside and for an undefined frequency. -/
def Obligations.FrequencyToNoteIsTheFormula : Prop :=
  frequencyToNote none = none ∧
  ∀ f : Hz, 0 < f.den →
    let hz : ℝ := (f.num : ℝ) / f.den
    (hz < 20 ∨ 20000 < hz → frequencyToNote (some f) = none) ∧
    (20 ≤ hz → hz ≤ 20000 → ∃ n : Nat, frequencyToNote (some f) = some n ∧ 15 ≤ n ∧ n ≤ 135 ∧
      (n : Int) = ⌊69 + 12 * Real.logb 2 (hz / 440) + 1 / 2⌋)

/-! ### The call convention and the host -/

/-- R615, R616, R618: the run enters the routine and steps while `SPR` is below its value before the call and the total is
below the budget, both tests before every step; it ends after at most `maxCycles` steps and returns the sum of the
costs. -/
def Obligations.RunUntilStackDepthIsTheLoop : Prop :=
  ∀ (s : State) (target : Word) (maxCycles : Nat), ∃ (k : Nat) (visited : Nat → State) (total : Nat → Nat),
    visited 0 = s.enterRoutine target ∧ total 0 = 0 ∧
    (∀ j, j < k → (visited j).spr < s.spr ∧ total j < maxCycles ∧ step (visited j) = .next (visited (j + 1)) ∧
      total (j + 1) = total j + (visited (j + 1)).cycles) ∧
    ¬ ((visited k).spr < s.spr ∧ total k < maxCycles) ∧ k ≤ maxCycles ∧
    runUntilStackDepth s target maxCycles = (total k, visited k)

/-- R617: with the default cost tables a run that the budget ends returns at least the budget and exceeds it by less than
7 on CPU-A and by less than 23 on CPU-B; the entry pushes the sentinel's two bytes, high byte first. -/
def Obligations.BudgetExpiryIsBounded : Prop :=
  ∀ (s : State) (target : Word) (maxCycles : Nat),
    (match s.params.cpu with
      | .a => s.enterRoutine target = { s.writeAll [(stackAddrA s.cpuA.s, hiByte s.params.sentinel),
          (stackAddrA (s.cpuA.s - 1), loByte s.params.sentinel)] with
            cpuA := { s.cpuA with s := s.cpuA.s - 2, pc := target } }
      | .b => s.enterRoutine target = { s.writeAll [(s.cpuB.sp - 1, hiByte s.params.sentinel),
          (s.cpuB.sp - 2, loByte s.params.sentinel)] with
            cpuB := { s.cpuB with sp := s.cpuB.sp - 2, pc := target } }) ∧
    (s.params.cycles = [] → (runUntilStackDepth s target maxCycles).2.spr < s.spr →
      maxCycles ≤ (runUntilStackDepth s target maxCycles).1 ∧
      (runUntilStackDepth s target maxCycles).1 <
        maxCycles + (match s.params.cpu with | .a => 7 | .b => 23))

/-- R611, R620 to R624, R631 with U6, U7, U8 and U11: what a created session holds, which songs are accepted, and what
`load` and `advanceTick` do to the driver. That a song not accepted, a second load and a tick before `load` are answered
with none is the model's choice (log entry 16). -/
def Obligations.DriverLoadsAndTicks : Prop :=
  (∀ (p : Params) (initMem : List (Word × Byte)),
    let s := createSession p initMem
    s.params = p ∧ s.shadow = List.replicate p.chipSize 0 ∧ s.aySel = 0 ∧ Memory.wf s.mem = true ∧
    ∀ a, s.read a = initMem.foldl (fun v c => if c.1 = a then c.2 else v) 0) ∧
  (∀ g : Song, g.ok = true ↔
    2 ≤ (match g.params.cpu with
      | .a => g.resetSp.toNat % 256
      | .b => g.resetSp.toNat) ∧
    (g.params.chip ≠ .ay → g.params.chipBase + g.params.chipSize ≤ 65536) ∧
    (∀ f ∈ [g.params.nesClock, g.params.sidClock, g.params.pokeyClock, g.params.ayClock], 0 < f.num ∧ 0 < f.den) ∧
    ∀ e ∈ g.params.cycles, 1 ≤ e.cost) ∧
  (∀ (g : Song) (code : List Byte) (a : Word),
    (Driver.new g).load code a =
      (if g.ok then
        some { phase := .initialized, song := g, session := some (g.loaded code a), snapshots := [] } else none)) ∧
  (∀ (g : Song) (code : List Byte) (a : Word),
    let s := ((createSession g.params g.initMem).loadBlock a code).resetCpu g.initAddress g.resetSp
    g.loaded code a = (runUntilStackDepth s g.initAddress g.tickBudget).2 ∧ (g.loaded code a).Inv) ∧
  (∀ (d : Driver) (s : State), d.session = some s →
    let t := (runUntilStackDepth s d.song.tickAddress d.song.tickBudget).2
    d.advanceTick = some { d with
      phase := .replaying, session := some t
      snapshots := d.snapshots ++ [{ tick := d.snapshots.length, voices := deriveVoices t.params t.shadow }] }) ∧
  ∀ (d : Driver) (code : List Byte) (a : Word),
    (d.phase ≠ .idle → d.load code a = none) ∧ (d.session = none → d.advanceTick = none)

end ModelStatements
end

