-- ==== Sys2Proof/Laws/Flags.lean ====
section
/-! SUPPORT. Byte order, the status bytes, and the ends of an instruction: once, everything each can do. -/

namespace Sys2Proof

@[simp] theorem hiByte_word (h l : Byte) : hiByte (word h l) = h := by
  apply BitVec.eq_of_getLsbD_eq
  intro i hi
  simp only [hiByte, word, BitVec.getLsbD_extractLsb', BitVec.getLsbD_append, hi, decide_true, Bool.true_and]
  simp

@[simp] theorem loByte_word (h l : Byte) : loByte (word h l) = l := by
  apply BitVec.eq_of_getLsbD_eq
  intro i hi
  simp only [loByte, word, BitVec.getLsbD_extractLsb', BitVec.getLsbD_append, hi, decide_true, Bool.true_and]
  simp [hi]

@[simp] theorem word_hi_lo (w : Word) : word (hiByte w) (loByte w) = w := by
  apply BitVec.eq_of_getLsbD_eq
  intro i hi
  simp only [hiByte, loByte, word, BitVec.getLsbD_extractLsb', BitVec.getLsbD_append]
  by_cases h : i < 8
  · simp [h]
  · have e : 8 + (i - 8) = i := by omega
    have g : i - 8 < 8 := by omega
    simp [h, e, g]

/-- A word as a number: the high byte counts 256 times. -/
theorem word_toNat (h l : Byte) : (word h l).toNat = 256 * h.toNat + l.toNat := by
  have hl := l.isLt
  rw [show word h l = h ++ l from rfl, BitVec.toNat_append, ← Nat.shiftLeft_add_eq_or_of_lt hl, Nat.shiftLeft_eq]
  omega

namespace Machine

/-- `setP` of a pushed status byte brings CPU-A's flags back (R25). -/
@[simp] theorem PFlags.ofByte_toByte (p : PFlags) : PFlags.ofByte p.toByte = p := by
  obtain ⟨n, v, d, i, z, c⟩ := p
  cases n <;> cases v <;> cases d <;> cases i <;> cases z <;> cases c <;> rfl

/-- The six flags written into a flag byte are the six flags read from it (R31). -/
@[simp] theorem FlagSet.ofByte_into (fl : FlagSet) (f : Byte) : FlagSet.ofByte (fl.into f) = fl := by
  obtain ⟨s, z, h, pv, n, c⟩ := fl
  unfold FlagSet.into
  cases bit f 5 <;> cases bit f 3 <;> cases s <;> cases z <;> cases h <;> cases pv <;> cases n <;> cases c <;> rfl

/-- Writing the six flags keeps bit 5 of `F` (R300). -/
@[simp] theorem FlagSet.into_bit_five (fl : FlagSet) (f : Byte) : bit (fl.into f) 5 = bit f 5 := by
  obtain ⟨s, z, h, pv, n, c⟩ := fl
  unfold FlagSet.into
  cases bit f 5 <;> cases bit f 3 <;> cases s <;> cases z <;> cases h <;> cases pv <;> cases n <;> cases c <;> rfl

/-- Writing the six flags keeps bit 3 of `F` (R300). -/
@[simp] theorem FlagSet.into_bit_three (fl : FlagSet) (f : Byte) : bit (fl.into f) 3 = bit f 3 := by
  obtain ⟨s, z, h, pv, n, c⟩ := fl
  unfold FlagSet.into
  cases bit f 5 <;> cases bit f 3 <;> cases s <;> cases z <;> cases h <;> cases pv <;> cases n <;> cases c <;> rfl

@[simp] theorem State.flags_setFlags (s : State) (fl : FlagSet) : (s.setFlags fl).flags = fl :=
  FlagSet.ofByte_into fl s.cpuB.main.f

/-- The one next state of an instruction of CPU-A that passes by. -/
theorem runA_next {i : Instr} {body : State → State} {s t : State} (h : runA i body s = .next t) :
    t = ((body s).setPcA (s.cpuA.pc + BitVec.ofNat 16 i.length)).charge i false := by
  cases h; rfl

/-- The one next state of an instruction of CPU-A that jumps. -/
theorem jumpA_next {i : Instr} {v : Bool} {body : State → State} {w : Word} {s t : State}
    (h : jumpA i v body w s = .next t) : t = ((body s).setPcA w).charge i v := by
  cases h; rfl

/-- The one next state of an instruction of CPU-B that passes by. -/
theorem runB_next {i : Instr} {body : State → State} {s t : State} (h : runB i body s = .next t) :
    t = ((body (s.advanceR i.fetches)).setPcB (s.cpuB.pc + BitVec.ofNat 16 i.length)).charge i false := by
  cases h; rfl

/-- The one next state of an instruction of CPU-B that jumps. -/
theorem jumpB_next {i : Instr} {v : Bool} {body : State → State} {w : Word} {s t : State}
    (h : jumpB i v body w s = .next t) : t = ((body (s.advanceR i.fetches)).setPcB w).charge i v := by
  cases h; rfl

/-- The next state of a repeating block instruction: on itself while the test holds of the state after it, else past
itself. -/
theorem repeatB_next {i : Instr} {body : State → State} {again : State → Bool} {s t : State}
    (h : repeatB i body again s = .next t) :
    (again (body (s.advanceR i.fetches)) = true ∧
      t = ((body (s.advanceR i.fetches)).setPcB s.cpuB.pc).charge i true) ∨
    (again (body (s.advanceR i.fetches)) = false ∧
      t = ((body (s.advanceR i.fetches)).setPcB (s.cpuB.pc + BitVec.ofNat 16 i.length)).charge i false) := by
  unfold repeatB at h
  simp only at h
  split at h
  · next c => cases h; exact .inl ⟨c, rfl⟩
  · next c => cases h; exact .inr ⟨by simpa using c, rfl⟩

/-- Every default cost is at least 1 cycle (R640). -/
theorem defaultCycles_pos (i : Instr) (v : Bool) : 1 ≤ i.defaultCycles v := by
  have rd : ∀ o : AddrMode, 1 ≤ o.readCycles := by intro o; cases o <;> simp [AddrMode.readCycles]
  have wr : ∀ o : AddrMode, 1 ≤ o.writeCycles := by intro o; cases o <;> simp [AddrMode.writeCycles]
  have rm : ∀ o : AddrMode, 1 ≤ o.rmwCycles := by intro o; cases o <;> simp [AddrMode.rmwCycles]
  have op : ∀ o : AOperand, 1 ≤ o.cycles := by intro o; cases o <;> simp [AOperand.cycles, rd]
  have tg : ∀ o : ATarget, 1 ≤ o.cycles := by intro o; cases o <;> simp [ATarget.cycles, rm]
  have n2 : ∀ o : Byte, 1 ≤ nop2Cycles o := by intro o; unfold nop2Cycles; split_ifs <;> decide
  have sr : ∀ o : Src8, 1 ≤ o.cycles := by intro o; cases o <;> simp [Src8.cycles]
  have lc : ∀ o : Loc8, 1 ≤ o.cycles ∧ 1 ≤ o.cyclesCB ∧ 1 ≤ o.cyclesBit := by
    intro o; cases o <;> simp [Loc8.cycles, Loc8.cyclesCB, Loc8.cyclesBit]
  cases i <;> simp only [Instr.defaultCycles] <;>
    first
      | exact op _ | exact tg _ | exact rd _ | exact wr _ | exact rm _ | exact n2 _ | exact sr _
      | exact (lc _).1 | exact (lc _).2.1 | exact (lc _).2.2 | decide | (cases v <;> decide)

/-- Every cost is at least 1 cycle, whatever the configured table says (R640, log entry 9). -/
theorem cyc_pos (p : Params) (i : Instr) (v : Bool) : 1 ≤ cyc p i v := by
  unfold cyc
  split
  · omega
  · exact defaultCycles_pos i v

end Machine

end Sys2Proof
end

