-- ==== Sys2Proof/Laws/PerInstr.lean ====
section
/-! SUPPORT. Statements made per instruction: the encoder writes exactly `len` bytes (R103, R124), one lemma for each
constructor. -/

namespace Sys2Proof.Laws

/-- A well-formed instruction is encoded in `len` bytes. -/
def EncodedLength.Statement (i : Instr) : Prop := WellFormed i = true → (encode i).length = i.length

theorem EncodedLength.aLda (m : AOperand) : EncodedLength.Statement (.aLda m) := by
  rcases m with n | m <;> intro h
  · rfl
  · cases m <;> first | rfl | exact absurd h Bool.false_ne_true

theorem EncodedLength.aLdx (m : AOperand) : EncodedLength.Statement (.aLdx m) := by
  rcases m with n | m <;> intro h
  · rfl
  · cases m <;> first | rfl | exact absurd h Bool.false_ne_true

theorem EncodedLength.aLdy (m : AOperand) : EncodedLength.Statement (.aLdy m) := by
  rcases m with n | m <;> intro h
  · rfl
  · cases m <;> first | rfl | exact absurd h Bool.false_ne_true

theorem EncodedLength.aSta (m : AddrMode) : EncodedLength.Statement (.aSta m) := by
  cases m <;> intro h <;> first | rfl | exact absurd h Bool.false_ne_true

theorem EncodedLength.aStx (m : AddrMode) : EncodedLength.Statement (.aStx m) := by
  cases m <;> intro h <;> first | rfl | exact absurd h Bool.false_ne_true

theorem EncodedLength.aSty (m : AddrMode) : EncodedLength.Statement (.aSty m) := by
  cases m <;> intro h <;> first | rfl | exact absurd h Bool.false_ne_true

theorem EncodedLength.aTax : EncodedLength.Statement .aTax := fun _ => rfl

theorem EncodedLength.aTay : EncodedLength.Statement .aTay := fun _ => rfl

theorem EncodedLength.aTxa : EncodedLength.Statement .aTxa := fun _ => rfl

theorem EncodedLength.aTya : EncodedLength.Statement .aTya := fun _ => rfl

theorem EncodedLength.aTsx : EncodedLength.Statement .aTsx := fun _ => rfl

theorem EncodedLength.aTxs : EncodedLength.Statement .aTxs := fun _ => rfl

theorem EncodedLength.aPha : EncodedLength.Statement .aPha := fun _ => rfl

theorem EncodedLength.aPhp : EncodedLength.Statement .aPhp := fun _ => rfl

theorem EncodedLength.aPla : EncodedLength.Statement .aPla := fun _ => rfl

theorem EncodedLength.aPlp : EncodedLength.Statement .aPlp := fun _ => rfl

theorem EncodedLength.aAdc (m : AOperand) : EncodedLength.Statement (.aAdc m) := by
  rcases m with n | m <;> intro h
  · rfl
  · cases m <;> first | rfl | exact absurd h Bool.false_ne_true

theorem EncodedLength.aSbc (m : AOperand) : EncodedLength.Statement (.aSbc m) := by
  rcases m with n | m <;> intro h
  · rfl
  · cases m <;> first | rfl | exact absurd h Bool.false_ne_true

theorem EncodedLength.aAnd (m : AOperand) : EncodedLength.Statement (.aAnd m) := by
  rcases m with n | m <;> intro h
  · rfl
  · cases m <;> first | rfl | exact absurd h Bool.false_ne_true

theorem EncodedLength.aOra (m : AOperand) : EncodedLength.Statement (.aOra m) := by
  rcases m with n | m <;> intro h
  · rfl
  · cases m <;> first | rfl | exact absurd h Bool.false_ne_true

theorem EncodedLength.aEor (m : AOperand) : EncodedLength.Statement (.aEor m) := by
  rcases m with n | m <;> intro h
  · rfl
  · cases m <;> first | rfl | exact absurd h Bool.false_ne_true

theorem EncodedLength.aCmp (m : AOperand) : EncodedLength.Statement (.aCmp m) := by
  rcases m with n | m <;> intro h
  · rfl
  · cases m <;> first | rfl | exact absurd h Bool.false_ne_true

theorem EncodedLength.aCpx (m : AOperand) : EncodedLength.Statement (.aCpx m) := by
  rcases m with n | m <;> intro h
  · rfl
  · cases m <;> first | rfl | exact absurd h Bool.false_ne_true

theorem EncodedLength.aCpy (m : AOperand) : EncodedLength.Statement (.aCpy m) := by
  rcases m with n | m <;> intro h
  · rfl
  · cases m <;> first | rfl | exact absurd h Bool.false_ne_true

theorem EncodedLength.aBit (m : AddrMode) : EncodedLength.Statement (.aBit m) := by
  cases m <;> intro h <;> first | rfl | exact absurd h Bool.false_ne_true

theorem EncodedLength.aInc (m : AddrMode) : EncodedLength.Statement (.aInc m) := by
  cases m <;> intro h <;> first | rfl | exact absurd h Bool.false_ne_true

theorem EncodedLength.aDec (m : AddrMode) : EncodedLength.Statement (.aDec m) := by
  cases m <;> intro h <;> first | rfl | exact absurd h Bool.false_ne_true

theorem EncodedLength.aInx : EncodedLength.Statement .aInx := fun _ => rfl

theorem EncodedLength.aIny : EncodedLength.Statement .aIny := fun _ => rfl

theorem EncodedLength.aDex : EncodedLength.Statement .aDex := fun _ => rfl

theorem EncodedLength.aDey : EncodedLength.Statement .aDey := fun _ => rfl

theorem EncodedLength.aAsl (t : ATarget) : EncodedLength.Statement (.aAsl t) := by
  rcases t with _ | m <;> intro h
  · rfl
  · cases m <;> first | rfl | exact absurd h Bool.false_ne_true

theorem EncodedLength.aLsr (t : ATarget) : EncodedLength.Statement (.aLsr t) := by
  rcases t with _ | m <;> intro h
  · rfl
  · cases m <;> first | rfl | exact absurd h Bool.false_ne_true

theorem EncodedLength.aRol (t : ATarget) : EncodedLength.Statement (.aRol t) := by
  rcases t with _ | m <;> intro h
  · rfl
  · cases m <;> first | rfl | exact absurd h Bool.false_ne_true

theorem EncodedLength.aRor (t : ATarget) : EncodedLength.Statement (.aRor t) := by
  rcases t with _ | m <;> intro h
  · rfl
  · cases m <;> first | rfl | exact absurd h Bool.false_ne_true

theorem EncodedLength.aBpl (e : Byte) : EncodedLength.Statement (.aBpl e) := fun _ => rfl

theorem EncodedLength.aBmi (e : Byte) : EncodedLength.Statement (.aBmi e) := fun _ => rfl

theorem EncodedLength.aBvc (e : Byte) : EncodedLength.Statement (.aBvc e) := fun _ => rfl

theorem EncodedLength.aBvs (e : Byte) : EncodedLength.Statement (.aBvs e) := fun _ => rfl

theorem EncodedLength.aBcc (e : Byte) : EncodedLength.Statement (.aBcc e) := fun _ => rfl

theorem EncodedLength.aBcs (e : Byte) : EncodedLength.Statement (.aBcs e) := fun _ => rfl

theorem EncodedLength.aBne (e : Byte) : EncodedLength.Statement (.aBne e) := fun _ => rfl

theorem EncodedLength.aBeq (e : Byte) : EncodedLength.Statement (.aBeq e) := fun _ => rfl

theorem EncodedLength.aJmp (nn : Word) : EncodedLength.Statement (.aJmp nn) := fun _ => rfl

theorem EncodedLength.aJmpInd (ptr : Word) : EncodedLength.Statement (.aJmpInd ptr) := fun _ => rfl

theorem EncodedLength.aJsr (nn : Word) : EncodedLength.Statement (.aJsr nn) := fun _ => rfl

theorem EncodedLength.aRts : EncodedLength.Statement .aRts := fun _ => rfl

theorem EncodedLength.aClc : EncodedLength.Statement .aClc := fun _ => rfl

theorem EncodedLength.aSec : EncodedLength.Statement .aSec := fun _ => rfl

theorem EncodedLength.aCli : EncodedLength.Statement .aCli := fun _ => rfl

theorem EncodedLength.aSei : EncodedLength.Statement .aSei := fun _ => rfl

theorem EncodedLength.aClv : EncodedLength.Statement .aClv := fun _ => rfl

theorem EncodedLength.aCld : EncodedLength.Statement .aCld := fun _ => rfl

theorem EncodedLength.aSed : EncodedLength.Statement .aSed := fun _ => rfl

theorem EncodedLength.aNop : EncodedLength.Statement .aNop := fun _ => rfl

theorem EncodedLength.aNop1 (op : Byte) : EncodedLength.Statement (.aNop1 op) := fun _ => rfl

theorem EncodedLength.aNop2 (op : Byte) (n : Byte) : EncodedLength.Statement (.aNop2 op n) := fun _ => rfl

theorem EncodedLength.aUnk (op : Byte) : EncodedLength.Statement (.aUnk op) := fun _ => rfl

theorem EncodedLength.aBrk : EncodedLength.Statement .aBrk := fun _ => rfl

theorem EncodedLength.aRti : EncodedLength.Statement .aRti := fun _ => rfl

theorem EncodedLength.bLdRR (r : Reg8) (q : Reg8) : EncodedLength.Statement (.bLdRR r q) := fun _ => rfl

theorem EncodedLength.bLdRN (r : Reg8) (n : Byte) : EncodedLength.Statement (.bLdRN r n) := fun _ => rfl

theorem EncodedLength.bLdRHl (r : Reg8) : EncodedLength.Statement (.bLdRHl r) := fun _ => rfl

theorem EncodedLength.bLdRXy (r : Reg8) (i : Index) (d : Byte) : EncodedLength.Statement (.bLdRXy r i d) := fun _ => rfl

theorem EncodedLength.bLdHlR (q : Reg8) : EncodedLength.Statement (.bLdHlR q) := fun _ => rfl

theorem EncodedLength.bLdXyR (i : Index) (d : Byte) (q : Reg8) : EncodedLength.Statement (.bLdXyR i d q) := fun _ => rfl

theorem EncodedLength.bLdHlN (n : Byte) : EncodedLength.Statement (.bLdHlN n) := fun _ => rfl

theorem EncodedLength.bLdXyN (i : Index) (d : Byte) (n : Byte) : EncodedLength.Statement (.bLdXyN i d n) := fun _ => rfl

theorem EncodedLength.bLdABc : EncodedLength.Statement .bLdABc := fun _ => rfl

theorem EncodedLength.bLdADe : EncodedLength.Statement .bLdADe := fun _ => rfl

theorem EncodedLength.bLdAMem (nn : Word) : EncodedLength.Statement (.bLdAMem nn) := fun _ => rfl

theorem EncodedLength.bLdBcA : EncodedLength.Statement .bLdBcA := fun _ => rfl

theorem EncodedLength.bLdDeA : EncodedLength.Statement .bLdDeA := fun _ => rfl

theorem EncodedLength.bLdMemA (nn : Word) : EncodedLength.Statement (.bLdMemA nn) := fun _ => rfl

theorem EncodedLength.bLdAI : EncodedLength.Statement .bLdAI := fun _ => rfl

theorem EncodedLength.bLdARefresh : EncodedLength.Statement .bLdARefresh := fun _ => rfl

theorem EncodedLength.bLdIA : EncodedLength.Statement .bLdIA := fun _ => rfl

theorem EncodedLength.bLdRefreshA : EncodedLength.Statement .bLdRefreshA := fun _ => rfl

theorem EncodedLength.bLdDdNn (p : Pair) (nn : Word) : EncodedLength.Statement (.bLdDdNn p nn) := fun _ => rfl

theorem EncodedLength.bLdXyNn (i : Index) (nn : Word) : EncodedLength.Statement (.bLdXyNn i nn) := fun _ => rfl

theorem EncodedLength.bLdHlMem (nn : Word) : EncodedLength.Statement (.bLdHlMem nn) := fun _ => rfl

theorem EncodedLength.bLdDdMem (p : Pair) (nn : Word) : EncodedLength.Statement (.bLdDdMem p nn) := fun _ => rfl

theorem EncodedLength.bLdXyMem (i : Index) (nn : Word) : EncodedLength.Statement (.bLdXyMem i nn) := fun _ => rfl

theorem EncodedLength.bLdMemHl (nn : Word) : EncodedLength.Statement (.bLdMemHl nn) := fun _ => rfl

theorem EncodedLength.bLdMemDd (nn : Word) (p : Pair) : EncodedLength.Statement (.bLdMemDd nn p) := fun _ => rfl

theorem EncodedLength.bLdMemXy (nn : Word) (i : Index) : EncodedLength.Statement (.bLdMemXy nn i) := fun _ => rfl

theorem EncodedLength.bLdSpHl : EncodedLength.Statement .bLdSpHl := fun _ => rfl

theorem EncodedLength.bLdSpXy (i : Index) : EncodedLength.Statement (.bLdSpXy i) := fun _ => rfl

theorem EncodedLength.bPush (q : StackPair) : EncodedLength.Statement (.bPush q) := fun _ => rfl

theorem EncodedLength.bPushXy (i : Index) : EncodedLength.Statement (.bPushXy i) := fun _ => rfl

theorem EncodedLength.bPop (q : StackPair) : EncodedLength.Statement (.bPop q) := fun _ => rfl

theorem EncodedLength.bPopXy (i : Index) : EncodedLength.Statement (.bPopXy i) := fun _ => rfl

theorem EncodedLength.bExDeHl : EncodedLength.Statement .bExDeHl := fun _ => rfl

theorem EncodedLength.bExAf : EncodedLength.Statement .bExAf := fun _ => rfl

theorem EncodedLength.bExx : EncodedLength.Statement .bExx := fun _ => rfl

theorem EncodedLength.bExSpHl : EncodedLength.Statement .bExSpHl := fun _ => rfl

theorem EncodedLength.bExSpXy (i : Index) : EncodedLength.Statement (.bExSpXy i) := fun _ => rfl

theorem EncodedLength.bLdi : EncodedLength.Statement .bLdi := fun _ => rfl

theorem EncodedLength.bLdir : EncodedLength.Statement .bLdir := fun _ => rfl

theorem EncodedLength.bLdd : EncodedLength.Statement .bLdd := fun _ => rfl

theorem EncodedLength.bLddr : EncodedLength.Statement .bLddr := fun _ => rfl

theorem EncodedLength.bCpi : EncodedLength.Statement .bCpi := fun _ => rfl

theorem EncodedLength.bCpir : EncodedLength.Statement .bCpir := fun _ => rfl

theorem EncodedLength.bCpd : EncodedLength.Statement .bCpd := fun _ => rfl

theorem EncodedLength.bCpdr : EncodedLength.Statement .bCpdr := fun _ => rfl

theorem EncodedLength.bAdd (m : Src8) : EncodedLength.Statement (.bAdd m) := by
  cases m <;> exact fun _ => rfl

theorem EncodedLength.bAdc (m : Src8) : EncodedLength.Statement (.bAdc m) := by
  cases m <;> exact fun _ => rfl

theorem EncodedLength.bSub (m : Src8) : EncodedLength.Statement (.bSub m) := by
  cases m <;> exact fun _ => rfl

theorem EncodedLength.bSbc (m : Src8) : EncodedLength.Statement (.bSbc m) := by
  cases m <;> exact fun _ => rfl

theorem EncodedLength.bAnd (m : Src8) : EncodedLength.Statement (.bAnd m) := by
  cases m <;> exact fun _ => rfl

theorem EncodedLength.bXor (m : Src8) : EncodedLength.Statement (.bXor m) := by
  cases m <;> exact fun _ => rfl

theorem EncodedLength.bOr (m : Src8) : EncodedLength.Statement (.bOr m) := by
  cases m <;> exact fun _ => rfl

theorem EncodedLength.bCp (m : Src8) : EncodedLength.Statement (.bCp m) := by
  cases m <;> exact fun _ => rfl

theorem EncodedLength.bInc (v : Loc8) : EncodedLength.Statement (.bInc v) := by
  cases v <;> exact fun _ => rfl

theorem EncodedLength.bDec (v : Loc8) : EncodedLength.Statement (.bDec v) := by
  cases v <;> exact fun _ => rfl

theorem EncodedLength.bDaa : EncodedLength.Statement .bDaa := fun _ => rfl

theorem EncodedLength.bCpl : EncodedLength.Statement .bCpl := fun _ => rfl

theorem EncodedLength.bNeg : EncodedLength.Statement .bNeg := fun _ => rfl

theorem EncodedLength.bCcf : EncodedLength.Statement .bCcf := fun _ => rfl

theorem EncodedLength.bScf : EncodedLength.Statement .bScf := fun _ => rfl

theorem EncodedLength.bAddHl (p : Pair) : EncodedLength.Statement (.bAddHl p) := fun _ => rfl

theorem EncodedLength.bAdcHl (p : Pair) : EncodedLength.Statement (.bAdcHl p) := fun _ => rfl

theorem EncodedLength.bSbcHl (p : Pair) : EncodedLength.Statement (.bSbcHl p) := fun _ => rfl

theorem EncodedLength.bAddXy (i : Index) (p : IndexPair) : EncodedLength.Statement (.bAddXy i p) := fun _ => rfl

theorem EncodedLength.bIncSs (p : Pair) : EncodedLength.Statement (.bIncSs p) := fun _ => rfl

theorem EncodedLength.bIncXy (i : Index) : EncodedLength.Statement (.bIncXy i) := fun _ => rfl

theorem EncodedLength.bDecSs (p : Pair) : EncodedLength.Statement (.bDecSs p) := fun _ => rfl

theorem EncodedLength.bDecXy (i : Index) : EncodedLength.Statement (.bDecXy i) := fun _ => rfl

theorem EncodedLength.bRlca : EncodedLength.Statement .bRlca := fun _ => rfl

theorem EncodedLength.bRla : EncodedLength.Statement .bRla := fun _ => rfl

theorem EncodedLength.bRrca : EncodedLength.Statement .bRrca := fun _ => rfl

theorem EncodedLength.bRra : EncodedLength.Statement .bRra := fun _ => rfl

theorem EncodedLength.bRlc (v : Loc8) : EncodedLength.Statement (.bRlc v) := by
  cases v <;> exact fun _ => rfl

theorem EncodedLength.bRrc (v : Loc8) : EncodedLength.Statement (.bRrc v) := by
  cases v <;> exact fun _ => rfl

theorem EncodedLength.bRl (v : Loc8) : EncodedLength.Statement (.bRl v) := by
  cases v <;> exact fun _ => rfl

theorem EncodedLength.bRr (v : Loc8) : EncodedLength.Statement (.bRr v) := by
  cases v <;> exact fun _ => rfl

theorem EncodedLength.bSla (v : Loc8) : EncodedLength.Statement (.bSla v) := by
  cases v <;> exact fun _ => rfl

theorem EncodedLength.bSra (v : Loc8) : EncodedLength.Statement (.bSra v) := by
  cases v <;> exact fun _ => rfl

theorem EncodedLength.bSrl (v : Loc8) : EncodedLength.Statement (.bSrl v) := by
  cases v <;> exact fun _ => rfl

theorem EncodedLength.bRld : EncodedLength.Statement .bRld := fun _ => rfl

theorem EncodedLength.bRrd : EncodedLength.Statement .bRrd := fun _ => rfl

theorem EncodedLength.bBit (b : Fin 8) (v : Loc8) : EncodedLength.Statement (.bBit b v) := by
  cases v <;> exact fun _ => rfl

theorem EncodedLength.bSet (b : Fin 8) (v : Loc8) : EncodedLength.Statement (.bSet b v) := by
  cases v <;> exact fun _ => rfl

theorem EncodedLength.bRes (b : Fin 8) (v : Loc8) : EncodedLength.Statement (.bRes b v) := by
  cases v <;> exact fun _ => rfl

theorem EncodedLength.bJp (nn : Word) : EncodedLength.Statement (.bJp nn) := fun _ => rfl

theorem EncodedLength.bJpCc (cc : Cond) (nn : Word) : EncodedLength.Statement (.bJpCc cc nn) := fun _ => rfl

theorem EncodedLength.bJr (e : Byte) : EncodedLength.Statement (.bJr e) := fun _ => rfl

theorem EncodedLength.bJrCc (cc : JrCond) (e : Byte) : EncodedLength.Statement (.bJrCc cc e) := fun _ => rfl

theorem EncodedLength.bJpHl : EncodedLength.Statement .bJpHl := fun _ => rfl

theorem EncodedLength.bJpXy (i : Index) : EncodedLength.Statement (.bJpXy i) := fun _ => rfl

theorem EncodedLength.bDjnz (e : Byte) : EncodedLength.Statement (.bDjnz e) := fun _ => rfl

theorem EncodedLength.bCall (nn : Word) : EncodedLength.Statement (.bCall nn) := fun _ => rfl

theorem EncodedLength.bCallCc (cc : Cond) (nn : Word) : EncodedLength.Statement (.bCallCc cc nn) := fun _ => rfl

theorem EncodedLength.bRet : EncodedLength.Statement .bRet := fun _ => rfl

theorem EncodedLength.bRetCc (cc : Cond) : EncodedLength.Statement (.bRetCc cc) := fun _ => rfl

theorem EncodedLength.bReti : EncodedLength.Statement .bReti := fun _ => rfl

theorem EncodedLength.bRetn : EncodedLength.Statement .bRetn := fun _ => rfl

theorem EncodedLength.bRst (t : Fin 8) : EncodedLength.Statement (.bRst t) := fun _ => rfl

theorem EncodedLength.bInAN (n : Byte) : EncodedLength.Statement (.bInAN n) := fun _ => rfl

theorem EncodedLength.bInRC (r : Reg8) : EncodedLength.Statement (.bInRC r) := fun _ => rfl

theorem EncodedLength.bIni : EncodedLength.Statement .bIni := fun _ => rfl

theorem EncodedLength.bInir : EncodedLength.Statement .bInir := fun _ => rfl

theorem EncodedLength.bInd : EncodedLength.Statement .bInd := fun _ => rfl

theorem EncodedLength.bIndr : EncodedLength.Statement .bIndr := fun _ => rfl

theorem EncodedLength.bOutNA (n : Byte) : EncodedLength.Statement (.bOutNA n) := fun _ => rfl

theorem EncodedLength.bOutCR (r : Reg8) : EncodedLength.Statement (.bOutCR r) := fun _ => rfl

theorem EncodedLength.bOuti : EncodedLength.Statement .bOuti := fun _ => rfl

theorem EncodedLength.bOtir : EncodedLength.Statement .bOtir := fun _ => rfl

theorem EncodedLength.bOutd : EncodedLength.Statement .bOutd := fun _ => rfl

theorem EncodedLength.bOtdr : EncodedLength.Statement .bOtdr := fun _ => rfl

theorem EncodedLength.bNop : EncodedLength.Statement .bNop := fun _ => rfl

theorem EncodedLength.bHalt : EncodedLength.Statement .bHalt := fun _ => rfl

theorem EncodedLength.bDi : EncodedLength.Statement .bDi := fun _ => rfl

theorem EncodedLength.bEi : EncodedLength.Statement .bEi := fun _ => rfl

theorem EncodedLength.bIm (m : IntMode) : EncodedLength.Statement (.bIm m) := by
  cases m <;> exact fun _ => rfl

theorem EncodedLength.bUnkCb (q : Fin 8) : EncodedLength.Statement (.bUnkCb q) := fun _ => rfl

theorem EncodedLength.bUnkEd (x : Byte) : EncodedLength.Statement (.bUnkEd x) := fun _ => rfl

theorem EncodedLength.bUnkXy (i : Index) : EncodedLength.Statement (.bUnkXy i) := fun _ => rfl

theorem EncodedLength.bUnkXycb (i : Index) (d : Byte) (x : Byte) : EncodedLength.Statement (.bUnkXycb i d x) := fun _ => rfl

end Sys2Proof.Laws
end

