-- ==== Sys2Proof/Tests/Slice0.lean ====
section
/-! SUPPORT. The model's own tests: ill-formed terms that the checks refuse, words written out from the spec's encodings,
single steps with results from the spec's vectors (95_test_vectors.md), and for every statement with hypotheses a
concrete state and operands that meet them. -/

set_option Elab.async false

namespace Sys2Proof.Tests

open Sys2Proof Sys2Proof.Machine

/-! ### Ill-formed terms are refused, one for each check -/

/-- STA has no mode zpy (R154), and no ALU operation has it (R201). -/
theorem test_refused_alu8 : WellFormed (.aSta (.zpy 0x10)) = false ∧ WellFormed (.aAdc (.mem (.zpy 0x10))) = false := by
  decide

/-- INC has no mode absy (R213), and no shift has mode indx (R203). -/
theorem test_refused_rmw : WellFormed (.aInc (.absy 0x1234)) = false ∧ WellFormed (.aRor (.mem (.indx 0x10))) = false := by
  decide

/-- LDX has no mode zpx (R152), LDY no mode zpy (R153). -/
theorem test_refused_ldx_ldy : WellFormed (.aLdx (.mem (.zpx 0x10))) = false ∧ WellFormed (.aLdy (.mem (.zpy 0x10))) = false := by
  decide

/-- STX has no mode absy (R155), STY no mode absx (R156). -/
theorem test_refused_stx_sty : WellFormed (.aStx (.absy 0x1234)) = false ∧ WellFormed (.aSty (.absx 0x1234)) = false := by
  decide

/-- CPX and CPY have no indexed mode (R210, R211), BIT neither (R212). -/
theorem test_refused_zp_abs :
    WellFormed (.aCpx (.mem (.zpx 0x10))) = false ∧ WellFormed (.aCpy (.mem (.absx 0x10))) = false ∧
    WellFormed (.aBit (.zpx 0x10)) = false := by
  decide

/-- 0xEA is the documented NOP, 0x0C is unknown, 0x80 is a two-byte no-op, 0x00 has a name of its own (R120, R121). -/
theorem test_refused_nops :
    WellFormed (.aNop1 0xEA) = false ∧ WellFormed (.aNop2 0x0C 0x00) = false ∧ WellFormed (.aUnk 0x80) = false ∧
    WellFormed (.aUnk 0x00) = false := by
  decide

/-- The second byte of LDIR is assigned (R130), so is the fourth byte of RLC (IX+d) (R132). -/
theorem test_refused_cpuB : WellFormed (.bUnkEd 0xB0) = false ∧ WellFormed (.bUnkXycb .ix 0x00 0x06) = false := by
  decide

/-- A clock of 0 Hz, a range past 0xFFFF and a cost of 0 are no configuration (U7, U8, U11). -/
theorem test_refused_params :
    (Params.default .a .sid).wf = true ∧
    ({ Params.default .a .sid with sidClock := ⟨0, 1⟩ }).wf = false ∧
    ({ Params.default .a .sid with chipBase := 0xFFE8 }).wf = false ∧
    ({ Params.default .a .sid with cycles := [⟨0xEA, false, 0⟩] }).wf = false := by
  decide

/-- Every size of the register file that does not wrap is a configuration (R530, U7). -/
theorem test_accepted_sizes :
    ({ Params.default .a .nesApu with chipSize := 0x16 }).wf = true ∧
    ({ Params.default .a .sid with chipSize := 0x13 }).wf = true ∧
    ({ Params.default .b .ay with chipSize := 11 }).wf = true ∧
    ({ Params.default .a .pokey with chipSize := 0 }).wf = true ∧
    ({ Params.default .a .sid with chipBase := 0xFFED, chipSize := 0x13 }).wf = true ∧
    ({ Params.default .a .sid with chipBase := 0xFFEE, chipSize := 0x13 }).wf = false := by
  decide

/-! ### Words written out from the spec's encodings -/

/-- The encodings of R151 to R156. -/
theorem test_decode_cpuA_loads :
    decode .a 0xA9 0x80 0x00 0x00 = .aLda (.imm 0x80) ∧
    decode .a 0xA5 0x12 0x00 0x00 = .aLda (.mem (.zp 0x12)) ∧
    decode .a 0xB5 0x12 0x00 0x00 = .aLda (.mem (.zpx 0x12)) ∧
    decode .a 0xAD 0x34 0x12 0x00 = .aLda (.mem (.abs 0x1234)) ∧
    decode .a 0xBD 0x34 0x12 0x00 = .aLda (.mem (.absx 0x1234)) ∧
    decode .a 0xB9 0x34 0x12 0x00 = .aLda (.mem (.absy 0x1234)) ∧
    decode .a 0xA1 0x12 0x00 0x00 = .aLda (.mem (.indx 0x12)) ∧
    decode .a 0xB1 0x12 0x00 0x00 = .aLda (.mem (.indy 0x12)) ∧
    decode .a 0xB6 0x12 0x00 0x00 = .aLdx (.mem (.zpy 0x12)) ∧
    decode .a 0xBC 0x34 0x12 0x00 = .aLdy (.mem (.absx 0x1234)) ∧
    decode .a 0x91 0x12 0x00 0x00 = .aSta (.indy 0x12) ∧
    decode .a 0x96 0x12 0x00 0x00 = .aStx (.zpy 0x12) ∧
    decode .a 0x8C 0x34 0x12 0x00 = .aSty (.abs 0x1234) := by
  decide +kernel

/-- The encodings of R157 to R166. -/
theorem test_decode_cpuA_transfers_and_stack :
    decode .a 0xAA 0x00 0x00 0x00 = .aTax ∧
    decode .a 0xA8 0x00 0x00 0x00 = .aTay ∧
    decode .a 0x8A 0x00 0x00 0x00 = .aTxa ∧
    decode .a 0x98 0x00 0x00 0x00 = .aTya ∧
    decode .a 0xBA 0x00 0x00 0x00 = .aTsx ∧
    decode .a 0x9A 0x00 0x00 0x00 = .aTxs ∧
    decode .a 0x48 0x00 0x00 0x00 = .aPha ∧
    decode .a 0x08 0x00 0x00 0x00 = .aPhp ∧
    decode .a 0x68 0x00 0x00 0x00 = .aPla ∧
    decode .a 0x28 0x00 0x00 0x00 = .aPlp := by
  decide +kernel

/-- The encodings of R204 to R222. -/
theorem test_decode_cpuA_arithmetic :
    decode .a 0x69 0x01 0x00 0x00 = .aAdc (.imm 0x01) ∧
    decode .a 0xF1 0x20 0x00 0x00 = .aSbc (.mem (.indy 0x20)) ∧
    decode .a 0x2D 0x34 0x12 0x00 = .aAnd (.mem (.abs 0x1234)) ∧
    decode .a 0x01 0x20 0x00 0x00 = .aOra (.mem (.indx 0x20)) ∧
    decode .a 0x59 0x34 0x12 0x00 = .aEor (.mem (.absy 0x1234)) ∧
    decode .a 0xD5 0x20 0x00 0x00 = .aCmp (.mem (.zpx 0x20)) ∧
    decode .a 0xE4 0x20 0x00 0x00 = .aCpx (.mem (.zp 0x20)) ∧
    decode .a 0xC0 0x05 0x00 0x00 = .aCpy (.imm 0x05) ∧
    decode .a 0x2C 0x34 0x12 0x00 = .aBit (.abs 0x1234) ∧
    decode .a 0xFE 0x34 0x12 0x00 = .aInc (.absx 0x1234) ∧
    decode .a 0xC6 0x20 0x00 0x00 = .aDec (.zp 0x20) ∧
    decode .a 0xE8 0x00 0x00 0x00 = .aInx ∧
    decode .a 0xC8 0x00 0x00 0x00 = .aIny ∧
    decode .a 0xCA 0x00 0x00 0x00 = .aDex ∧
    decode .a 0x88 0x00 0x00 0x00 = .aDey ∧
    decode .a 0x0A 0x00 0x00 0x00 = .aAsl .acc ∧
    decode .a 0x56 0x20 0x00 0x00 = .aLsr (.mem (.zpx 0x20)) ∧
    decode .a 0x2E 0x34 0x12 0x00 = .aRol (.mem (.abs 0x1234)) ∧
    decode .a 0x6A 0x00 0x00 0x00 = .aRor .acc := by
  decide +kernel

/-- The encodings of R261 to R285. -/
theorem test_decode_cpuA_control :
    decode .a 0x10 0xFE 0x00 0x00 = .aBpl 0xFE ∧
    decode .a 0x30 0x02 0x00 0x00 = .aBmi 0x02 ∧
    decode .a 0x50 0x02 0x00 0x00 = .aBvc 0x02 ∧
    decode .a 0x70 0x02 0x00 0x00 = .aBvs 0x02 ∧
    decode .a 0x90 0x02 0x00 0x00 = .aBcc 0x02 ∧
    decode .a 0xB0 0x02 0x00 0x00 = .aBcs 0x02 ∧
    decode .a 0xD0 0x02 0x00 0x00 = .aBne 0x02 ∧
    decode .a 0xF0 0x02 0x00 0x00 = .aBeq 0x02 ∧
    decode .a 0x4C 0x00 0x09 0x00 = .aJmp 0x0900 ∧
    decode .a 0x6C 0xFF 0x12 0x00 = .aJmpInd 0x12FF ∧
    decode .a 0x20 0x00 0x09 0x00 = .aJsr 0x0900 ∧
    decode .a 0x60 0x00 0x00 0x00 = .aRts ∧
    decode .a 0x18 0x00 0x00 0x00 = .aClc ∧
    decode .a 0x38 0x00 0x00 0x00 = .aSec ∧
    decode .a 0x58 0x00 0x00 0x00 = .aCli ∧
    decode .a 0x78 0x00 0x00 0x00 = .aSei ∧
    decode .a 0xB8 0x00 0x00 0x00 = .aClv ∧
    decode .a 0xD8 0x00 0x00 0x00 = .aCld ∧
    decode .a 0xF8 0x00 0x00 0x00 = .aSed ∧
    decode .a 0xEA 0x00 0x00 0x00 = .aNop ∧
    decode .a 0xDA 0x00 0x00 0x00 = .aNop1 0xDA ∧
    decode .a 0x80 0xA9 0x00 0x00 = .aNop2 0x80 0xA9 ∧
    decode .a 0x0C 0xA9 0x00 0x00 = .aUnk 0x0C ∧
    decode .a 0x00 0x00 0x00 0x00 = .aBrk ∧
    decode .a 0x40 0x00 0x00 0x00 = .aRti := by
  decide +kernel

/-- The encodings of R301 to R318. -/
theorem test_decode_cpuB_byte_loads :
    decode .b 0x41 0x00 0x00 0x00 = .bLdRR .b .c ∧
    decode .b 0x7C 0x00 0x00 0x00 = .bLdRR .a .h ∧
    decode .b 0x2E 0x05 0x00 0x00 = .bLdRN .l 0x05 ∧
    decode .b 0x56 0x00 0x00 0x00 = .bLdRHl .d ∧
    decode .b 0xFD 0x5E 0x80 0x00 = .bLdRXy .e .iy 0x80 ∧
    decode .b 0x71 0x00 0x00 0x00 = .bLdHlR .c ∧
    decode .b 0xDD 0x74 0x02 0x00 = .bLdXyR .ix 0x02 .h ∧
    decode .b 0x36 0x55 0x00 0x00 = .bLdHlN 0x55 ∧
    decode .b 0xFD 0x36 0xFF 0x55 = .bLdXyN .iy 0xFF 0x55 ∧
    decode .b 0x0A 0x00 0x00 0x00 = .bLdABc ∧
    decode .b 0x1A 0x00 0x00 0x00 = .bLdADe ∧
    decode .b 0x3A 0x34 0x12 0x00 = .bLdAMem 0x1234 ∧
    decode .b 0x02 0x00 0x00 0x00 = .bLdBcA ∧
    decode .b 0x12 0x00 0x00 0x00 = .bLdDeA ∧
    decode .b 0x32 0x34 0x12 0x00 = .bLdMemA 0x1234 ∧
    decode .b 0xED 0x57 0x00 0x00 = .bLdAI ∧
    decode .b 0xED 0x5F 0x00 0x00 = .bLdARefresh ∧
    decode .b 0xED 0x47 0x00 0x00 = .bLdIA ∧
    decode .b 0xED 0x4F 0x00 0x00 = .bLdRefreshA := by
  decide +kernel

/-- The encodings of R320 to R333. -/
theorem test_decode_cpuB_word_loads :
    decode .b 0x11 0x34 0x12 0x00 = .bLdDdNn .de 0x1234 ∧
    decode .b 0xDD 0x21 0x34 0x12 = .bLdXyNn .ix 0x1234 ∧
    decode .b 0x2A 0x34 0x12 0x00 = .bLdHlMem 0x1234 ∧
    decode .b 0xED 0x7B 0x34 0x12 = .bLdDdMem .sp 0x1234 ∧
    decode .b 0xFD 0x2A 0x34 0x12 = .bLdXyMem .iy 0x1234 ∧
    decode .b 0x22 0x34 0x12 0x00 = .bLdMemHl 0x1234 ∧
    decode .b 0xED 0x43 0x34 0x12 = .bLdMemDd 0x1234 .bc ∧
    decode .b 0xDD 0x22 0x34 0x12 = .bLdMemXy 0x1234 .ix ∧
    decode .b 0xF9 0x00 0x00 0x00 = .bLdSpHl ∧
    decode .b 0xFD 0xF9 0x00 0x00 = .bLdSpXy .iy ∧
    decode .b 0xF5 0x00 0x00 0x00 = .bPush .af ∧
    decode .b 0xDD 0xE5 0x00 0x00 = .bPushXy .ix ∧
    decode .b 0xD1 0x00 0x00 0x00 = .bPop .de ∧
    decode .b 0xFD 0xE1 0x00 0x00 = .bPopXy .iy := by
  decide +kernel

/-- The encodings of R336 to R348. -/
theorem test_decode_cpuB_exchanges_and_blocks :
    decode .b 0xEB 0x00 0x00 0x00 = .bExDeHl ∧
    decode .b 0x08 0x00 0x00 0x00 = .bExAf ∧
    decode .b 0xD9 0x00 0x00 0x00 = .bExx ∧
    decode .b 0xE3 0x00 0x00 0x00 = .bExSpHl ∧
    decode .b 0xFD 0xE3 0x00 0x00 = .bExSpXy .iy ∧
    decode .b 0xED 0xA0 0x00 0x00 = .bLdi ∧
    decode .b 0xED 0xB0 0x00 0x00 = .bLdir ∧
    decode .b 0xED 0xA8 0x00 0x00 = .bLdd ∧
    decode .b 0xED 0xB8 0x00 0x00 = .bLddr ∧
    decode .b 0xED 0xA1 0x00 0x00 = .bCpi ∧
    decode .b 0xED 0xB1 0x00 0x00 = .bCpir ∧
    decode .b 0xED 0xA9 0x00 0x00 = .bCpd ∧
    decode .b 0xED 0xB9 0x00 0x00 = .bCpdr := by
  decide +kernel

/-- The encodings of R371 to R397. -/
theorem test_decode_cpuB_arithmetic :
    decode .b 0x80 0x00 0x00 0x00 = .bAdd (.reg .b) ∧
    decode .b 0xCE 0x12 0x00 0x00 = .bAdc (.imm 0x12) ∧
    decode .b 0x96 0x00 0x00 0x00 = .bSub .hl ∧
    decode .b 0xDD 0x9E 0xFF 0x00 = .bSbc (.idx .ix 0xFF) ∧
    decode .b 0xA7 0x00 0x00 0x00 = .bAnd (.reg .a) ∧
    decode .b 0xFD 0xAE 0x01 0x00 = .bXor (.idx .iy 0x01) ∧
    decode .b 0xF6 0x0F 0x00 0x00 = .bOr (.imm 0x0F) ∧
    decode .b 0xBE 0x00 0x00 0x00 = .bCp .hl ∧
    decode .b 0x2C 0x00 0x00 0x00 = .bInc (.reg .l) ∧
    decode .b 0xFD 0x35 0x10 0x00 = .bDec (.idx .iy 0x10) ∧
    decode .b 0x27 0x00 0x00 0x00 = .bDaa ∧
    decode .b 0x2F 0x00 0x00 0x00 = .bCpl ∧
    decode .b 0xED 0x44 0x00 0x00 = .bNeg ∧
    decode .b 0x3F 0x00 0x00 0x00 = .bCcf ∧
    decode .b 0x37 0x00 0x00 0x00 = .bScf ∧
    decode .b 0x39 0x00 0x00 0x00 = .bAddHl .sp ∧
    decode .b 0xED 0x5A 0x00 0x00 = .bAdcHl .de ∧
    decode .b 0xED 0x72 0x00 0x00 = .bSbcHl .sp ∧
    decode .b 0xFD 0x29 0x00 0x00 = .bAddXy .iy .xy ∧
    decode .b 0x03 0x00 0x00 0x00 = .bIncSs .bc ∧
    decode .b 0xDD 0x23 0x00 0x00 = .bIncXy .ix ∧
    decode .b 0x3B 0x00 0x00 0x00 = .bDecSs .sp ∧
    decode .b 0xFD 0x2B 0x00 0x00 = .bDecXy .iy := by
  decide +kernel

/-- The encodings of R400 to R416. -/
theorem test_decode_cpuB_rotates_and_bits :
    decode .b 0x07 0x00 0x00 0x00 = .bRlca ∧
    decode .b 0x17 0x00 0x00 0x00 = .bRla ∧
    decode .b 0x0F 0x00 0x00 0x00 = .bRrca ∧
    decode .b 0x1F 0x00 0x00 0x00 = .bRra ∧
    decode .b 0xCB 0x07 0x00 0x00 = .bRlc (.reg .a) ∧
    decode .b 0xCB 0x0E 0x00 0x00 = .bRrc .hl ∧
    decode .b 0xCB 0x11 0x00 0x00 = .bRl (.reg .c) ∧
    decode .b 0xDD 0xCB 0x05 0x1E = .bRr (.idx .ix 0x05) ∧
    decode .b 0xCB 0x26 0x00 0x00 = .bSla .hl ∧
    decode .b 0xCB 0x2A 0x00 0x00 = .bSra (.reg .d) ∧
    decode .b 0xFD 0xCB 0xFE 0x3E = .bSrl (.idx .iy 0xFE) ∧
    decode .b 0xED 0x6F 0x00 0x00 = .bRld ∧
    decode .b 0xED 0x67 0x00 0x00 = .bRrd ∧
    decode .b 0xCB 0x7E 0x00 0x00 = .bBit 7 .hl ∧
    decode .b 0xDD 0xCB 0x01 0xC6 = .bSet 0 (.idx .ix 0x01) ∧
    decode .b 0xCB 0xA3 0x00 0x00 = .bRes 4 (.reg .e) := by
  decide +kernel

/-- The encodings of R451 to R475. -/
theorem test_decode_cpuB_jumps :
    decode .b 0xC3 0x00 0x09 0x00 = .bJp 0x0900 ∧
    decode .b 0xEA 0x00 0x09 0x00 = .bJpCc .pe 0x0900 ∧
    decode .b 0x18 0xFE 0x00 0x00 = .bJr 0xFE ∧
    decode .b 0x30 0x02 0x00 0x00 = .bJrCc .nc 0x02 ∧
    decode .b 0xE9 0x00 0x00 0x00 = .bJpHl ∧
    decode .b 0xDD 0xE9 0x00 0x00 = .bJpXy .ix ∧
    decode .b 0x10 0xFC 0x00 0x00 = .bDjnz 0xFC ∧
    decode .b 0xCD 0x00 0x09 0x00 = .bCall 0x0900 ∧
    decode .b 0xFC 0x00 0x09 0x00 = .bCallCc .m 0x0900 ∧
    decode .b 0xC9 0x00 0x00 0x00 = .bRet ∧
    decode .b 0xD8 0x00 0x00 0x00 = .bRetCc .c ∧
    decode .b 0xED 0x4D 0x00 0x00 = .bReti ∧
    decode .b 0xED 0x45 0x00 0x00 = .bRetn ∧
    decode .b 0xFF 0x00 0x00 0x00 = .bRst 7 := by
  decide +kernel

/-- The encodings of R480 to R520. -/
theorem test_decode_cpuB_ports_and_control :
    decode .b 0xDB 0xFE 0x00 0x00 = .bInAN 0xFE ∧
    decode .b 0xED 0x68 0x00 0x00 = .bInRC .l ∧
    decode .b 0xED 0xA2 0x00 0x00 = .bIni ∧
    decode .b 0xED 0xB2 0x00 0x00 = .bInir ∧
    decode .b 0xED 0xAA 0x00 0x00 = .bInd ∧
    decode .b 0xED 0xBA 0x00 0x00 = .bIndr ∧
    decode .b 0xD3 0xFE 0x00 0x00 = .bOutNA 0xFE ∧
    decode .b 0xED 0x51 0x00 0x00 = .bOutCR .d ∧
    decode .b 0xED 0xA3 0x00 0x00 = .bOuti ∧
    decode .b 0xED 0xB3 0x00 0x00 = .bOtir ∧
    decode .b 0xED 0xAB 0x00 0x00 = .bOutd ∧
    decode .b 0xED 0xBB 0x00 0x00 = .bOtdr ∧
    decode .b 0x00 0x00 0x00 0x00 = .bNop ∧
    decode .b 0x76 0x00 0x00 0x00 = .bHalt ∧
    decode .b 0xF3 0x00 0x00 0x00 = .bDi ∧
    decode .b 0xFB 0x00 0x00 0x00 = .bEi ∧
    decode .b 0xED 0x46 0x00 0x00 = .bIm .im0 ∧
    decode .b 0xED 0x56 0x00 0x00 = .bIm .im1 ∧
    decode .b 0xED 0x5E 0x00 0x00 = .bIm .im2 ∧
    decode .b 0xCB 0x37 0x00 0x00 = .bUnkCb 7 ∧
    decode .b 0xED 0x70 0x00 0x00 = .bUnkEd 0x70 ∧
    decode .b 0xFD 0x44 0x00 0x00 = .bUnkXy .iy ∧
    decode .b 0xDD 0xCB 0x05 0x36 = .bUnkXycb .ix 0x05 0x36 := by
  decide +kernel

/-- Words of the opcode table, first byte highest (log entry 3): LDA #, LD A,n, LD (IX+d),n and SRL (IY+d). -/
theorem test_table_words :
    decodeTableWord 8 0xA9 = some (.aLda (.imm 0)) ∧ decodeTableWord 16 0x3E00 = some (.bLdRN .a 0) ∧
    decodeTableWord 32 0xDD360000 = some (.bLdXyN .ix 0 0) ∧ decodeTableWord 32 0xFDCB003E = some (.bSrl (.idx .iy 0)) := by
  decide +kernel

/-- The word placed at the fetch is the next instruction the step runs (R101). -/
theorem test_with_fetch_word :
    (State.reset.withFetchWord 16 0xED44).fetch = .bNeg ∧ (State.reset.withFetchWord 8 0xE8).fetch = .aInx := by
  decide +kernel

/-! ### One step, with the results of 95_test_vectors.md -/

/-- The state after a step. -/
def after (s : State) : State :=
  match step s with
  | .next t => t
  | .fault _ => s
  | .refused _ => s

/-- CPU-A with an NES APU after `reset(0x0200, 0xFD)`, a program at 0x0200. -/
def cpuAAt (bytes : List Byte) : State :=
  (State.fresh (Params.default .a .nesApu) 0x0200 0xFD 0 0).loadBlock 0x0200 bytes

/-- CPU-B with a SID after `reset(0x8000, 0xFF00)`, a program at 0x8000. -/
def cpuBAt (bytes : List Byte) : State :=
  (State.fresh (Params.default .b .sid) 0 0 0x8000 0xFF00).loadBlock 0x8000 bytes

/-- CPU-B with an AY, the same. -/
def ayAt (bytes : List Byte) : State :=
  (State.fresh (Params.default .b .ay) 0 0 0x8000 0xFF00).loadBlock 0x8000 bytes

/-- `A` and the status byte of CPU-A (its bits 5 and 4 are 1). -/
def accA (s : State) : Byte × Byte := (s.cpuA.a, s.cpuA.p.toByte)

/-- `A` and `F` of CPU-B. -/
def accB (s : State) : Byte × Byte := (s.cpuB.main.a, s.cpuB.main.f)

/-- Vector A2. -/
theorem test_A2_lda_negative :
    accA (after (cpuAAt [0xA9, 0x80])) = (0x80, 0xB4) := by
  decide +kernel

/-- Vector A6. -/
theorem test_A6_lda_zpx_wraps_in_page_zero :
    (after (((cpuAAt [0xB5, 0xF0]).setX 0x20).store 0x0010 0x55)).cpuA.a = 0x55 := by
  decide +kernel

/-- Vector A7. -/
theorem test_A7_ldx_zpy_wraps_in_page_zero :
    (after (((cpuAAt [0xB6, 0xFF]).setY 0x01).store 0x0000 0x66)).cpuA.x = 0x66 := by
  decide +kernel

/-- Vector A9. -/
theorem test_A9_lda_absx_wraps :
    (after (((cpuAAt [0xBD, 0xFF, 0xFF]).setX 0x02).store 0x0001 0x77)).cpuA.a = 0x77 := by
  decide +kernel

/-- Vector A11. -/
theorem test_A11_lda_indx_pointer_wraps :
    (after ((((cpuAAt [0xA1, 0xFE]).setX 0x01).loadBlock 0x00FF [0x34, 0x99]).store 0 0x12 |>.store 0x1234 0x5A)).cpuA.a = 0x5A := by
  decide +kernel

/-- Vector A12. -/
theorem test_A12_lda_indy_pointer_wraps :
    (after ((((cpuAAt [0xB1, 0xFF]).setY 0x10).loadBlock 0x00FF [0xF8, 0x99]).store 0 0x20 |>.store 0x2108 0xC3)).cpuA.a = 0xC3 := by
  decide +kernel

/-- Vector A13. -/
theorem test_A13_sta_forwards :
    (after ((cpuAAt [0x8D, 0x00, 0x40]).setA 0xBF)).shadow.head? = some 0xBF := by
  decide +kernel

/-- Vector A18. -/
theorem test_A18_txs_sets_no_flag :
    (after (cpuAAt [0x9A])).cpuA.s = 0x00 ∧ (after (cpuAAt [0x9A])).cpuA.p.z = false := by
  decide +kernel

/-- Vector A20. -/
theorem test_A20_pha_wraps_in_page_one :
    (after (((cpuAAt [0x48]).setA 0x9C).setS 0)).read 0x0100 = 0x9C ∧ (after (((cpuAAt [0x48]).setA 0x9C).setS 0)).cpuA.s = 0xFF := by
  decide +kernel

/-- Vector A22. -/
theorem test_A22_php_pushes_bits_five_and_four :
    (after (((cpuAAt [0x08]).setP (PFlags.ofByte 0xCB)).setS 1)).read 0x0101 = 0xFB := by
  decide +kernel

/-- Vector A23. -/
theorem test_A23_plp_loads_six_flags :
    (after (((cpuAAt [0x28]).setS 0x10).store 0x0111 0xFF)).cpuA.p = PFlags.ofByte 0xFF := by
  decide +kernel

/-- Vector B1. -/
theorem test_B1_adc_overflows :
    accA (after ((cpuAAt [0x69, 0x01]).setA 0x7F)) = (0x80, 0xF4) := by
  decide +kernel

/-- Vector B5. -/
theorem test_B5_adc_ignores_decimal :
    (after (((cpuAAt [0x69, 0x19]).setA 0x28).setP (PFlags.ofByte 0x08))).cpuA.a = 0x41 := by
  decide +kernel

/-- Vector B7. -/
theorem test_B7_sbc_borrows :
    accA (after (((cpuAAt [0xE9, 0x01]).setA 0).setP (PFlags.ofByte 0))) = (0xFE, 0xB0) := by
  decide +kernel

/-- Vector B8. -/
theorem test_B8_sbc_overflows :
    accA (after (((cpuAAt [0xE9, 0x01]).setA 0x80).setP (PFlags.ofByte 1))) = (0x7F, 0x71) := by
  decide +kernel

/-- Vector B16. -/
theorem test_B16_cmp_keeps_overflow :
    accA (after (((cpuAAt [0xC9, 0x01]).setA 0x80).setP (PFlags.ofByte 0x40))) = (0x80, 0x71) := by
  decide +kernel

/-- Vector B19. -/
theorem test_B19_bit_copies_bits_seven_and_six :
    accA (after (((cpuAAt [0x24, 0x10]).setA 1).store 0x0010 0xC0)) = (0x01, 0xF6) := by
  decide +kernel

/-- Vector B23. -/
theorem test_B23_inc_on_a_chip_register :
    (after ((cpuAAt [0xEE, 0x15, 0x40]).store 0x4015 0x7F)).shadow[0x15]? = some 0x80 := by
  decide +kernel

/-- Vector B29. -/
theorem test_B29_rol_carries_in :
    accA (after (((cpuAAt [0x2A]).setA 0x80).setP (PFlags.ofByte 1))) = (0x01, 0x31) := by
  decide +kernel

/-- Vector B33. -/
theorem test_B33_ror_in_memory :
    (after (((cpuAAt [0x66, 0x40]).setP (PFlags.ofByte 1)).store 0x0040 0x02)).read 0x0040 = 0x81 := by
  decide +kernel

/-- Vector C1. -/
theorem test_C1_bne_taken :
    (after ((cpuAAt [0xD0, 0x05]).setP (PFlags.ofByte 0))).cpuA.pc = 0x0207 ∧ (after ((cpuAAt [0xD0, 0x05]).setP (PFlags.ofByte 0))).cycles = 3 := by
  decide +kernel

/-- Vector C4. -/
theorem test_C4_bpl_farthest_back :
    (after ((cpuAAt [0x10, 0x80]).setP (PFlags.ofByte 0))).cpuA.pc = 0x0182 := by
  decide +kernel

/-- Vector C11. -/
theorem test_C11_jmp_indirect_page_wrap :
    (after (((cpuAAt [0x6C, 0xFF, 0x12]).loadBlock 0x12FF [0x34, 0x99]).store 0x1200 0x56)).cpuA.pc = 0x5634 := by
  decide +kernel

/-- Vector C13. -/
theorem test_C13_jsr_pushes_its_last_byte :
    (after ((((cpuAAt []).setPcA 0x80FE).loadBlock 0x80FE [0x20, 0x00, 0x90]).setS 0xFF)).read16 0x01FE = 0x8100 := by
  decide +kernel

/-- Vector C15. -/
theorem test_C15_rts_wraps :
    (after (((cpuAAt [0x60]).setS 0xFE).loadBlock 0x01FF [0xFF] |>.store 0x0100 0xFF)).cpuA.pc = 0x0000 := by
  decide +kernel

/-- Vector C24. -/
theorem test_C24_nop2_skips_its_operand :
    (after (cpuAAt [0x04, 0x10])).cpuA.pc = 0x0202 ∧ (after (cpuAAt [0x04, 0x10])).cycles = 3 := by
  decide +kernel

/-- Vector C26. -/
theorem test_C26_brk_is_one_byte :
    (after (cpuAAt [0x00])).cpuA.pc = 0x0201 ∧ (after (cpuAAt [0x00])).cpuA.s = 0xFD := by
  decide +kernel

/-- Vector D7. -/
theorem test_D7_ld_h_indexed :
    (after ((((cpuBAt [0xFD, 0x66, 0x7F]).setIndex .iy 0xFFF0).setHl 0x1111).store 0x006F 0xAB)).hl = 0xAB11 := by
  decide +kernel

/-- Vector D8. -/
theorem test_D8_ld_indexed_n_negative :
    (after ((cpuBAt [0xDD, 0x36, 0x80, 0x77]).setIndex .ix 0x0010)).read 0xFF90 = 0x77 := by
  decide +kernel

/-- Vector D15. -/
theorem test_D15_ld_hl_word_wraps :
    (after (((cpuBAt [0x2A, 0xFF, 0xFF]).store 0xFFFF 0x34).store 0 0x12)).hl = 0x1234 := by
  decide +kernel

/-- Vector D20. -/
theorem test_D20_push_af_wraps :
    (after (((cpuBAt [0xF5]).setAf 0x12FF).setSp 0x0001)).read16 0xFFFF = 0x12FF := by
  decide +kernel

/-- Vector D21. -/
theorem test_D21_pop_af_loads_every_bit :
    accB (after ((cpuBAt [0xF1]).loadBlock 0xFF00 [0xD7, 0x80])) = (0x80, 0xD7) := by
  decide +kernel

/-- Vector D28. -/
theorem test_D28_ex_sp_hl :
    (after (((cpuBAt [0xE3]).setHl 0x1234).loadBlock 0xFF00 [0x78, 0x56])).hl = 0x5678 := by
  decide +kernel

/-- Vector D29. -/
theorem test_D29_ldi_last_byte :
    (after (((((cpuBAt [0xED, 0xA0]).setHl 0x1000).setDe 0x2000).setBc 1).setF 0xFF)).cpuB.main.f = 0xE9 := by
  decide +kernel

/-- Vector D31. -/
theorem test_D31_ldir_with_bc_zero :
    (after (((cpuBAt [0xED, 0xB0]).setHl 0xFFFF))).cpuB.pc = 0x8000 ∧ (after ((cpuBAt [0xED, 0xB0]).setHl 0xFFFF)).cycles = 21 := by
  decide +kernel

/-- Vector D33. -/
theorem test_D33_cpi_matches :
    (after (((((cpuBAt [0xED, 0xA1]).setHl 0x3000).setBc 5).setAf 0x1001).store 0x3000 0x10)).cpuB.main.f = 0x47 := by
  decide +kernel

/-- Vector D36. -/
theorem test_D36_ld_a_refresh :
    (after { cpuBAt [0xED, 0x5F] with cpuB := { (cpuBAt []).cpuB with r := 0x7F, iff2 := true } }).af = 0x0104 := by
  decide +kernel

/-- Vector E1. -/
theorem test_E1_add_overflows :
    accB (after ((cpuBAt [0xC6, 0x01]).setAf 0x7F00)) = (0x80, 0x94) := by
  decide +kernel

/-- Vector E5. -/
theorem test_E5_add_keeps_bits_five_and_three :
    accB (after ((cpuBAt [0xC6, 0x01]).setAf 0x0F28)) = (0x10, 0x38) := by
  decide +kernel

/-- Vector E9. -/
theorem test_E9_sbc_with_borrow :
    accB (after ((cpuBAt [0xDE, 0xFF]).setAf 0x0001)) = (0x00, 0x53) := by
  decide +kernel

/-- Vector E12. -/
theorem test_E12_and_sets_half_carry :
    accB (after ((cpuBAt [0xE6, 0x0F]).setAf 0xF001)) = (0x00, 0x54) := by
  decide +kernel

/-- Vector E15. -/
theorem test_E15_inc_overflows_and_keeps_carry :
    (after (((cpuBAt [0x04]).setBc 0x7F00).setF 0x01)).cpuB.main.f = 0x95 := by
  decide +kernel

/-- Vector E21. -/
theorem test_E21_dec_indexed :
    (after (((cpuBAt [0xDD, 0x35, 0x01]).setIndex .ix 0x4000).store 0x4001 0x10)).read 0x4001 = 0x0F := by
  decide +kernel

/-- Vector E24. -/
theorem test_E24_daa_after_subtraction :
    accB (after ((cpuBAt [0x27]).setAf 0xFA13)) = (0x94, 0x83) := by
  decide +kernel

/-- Vector E27. -/
theorem test_E27_neg_of_0x80 :
    accB (after ((cpuBAt [0xED, 0x44]).setAf 0x8000)) = (0x80, 0x87) := by
  decide +kernel

/-- Vector E30. -/
theorem test_E30_ccf_moves_carry_to_h :
    (after ((cpuBAt [0x3F]).setF 0x01)).cpuB.main.f = 0x10 := by
  decide +kernel

/-- Vector E33. -/
theorem test_E33_add_hl_keeps_s_z_pv :
    (after ((((cpuBAt [0x09]).setHl 0x0FFF).setBc 1).setF 0xC4)).cpuB.main.f = 0xD4 := by
  decide +kernel

/-- Vector E40. -/
theorem test_E40_sbc_hl_overflows :
    (after (((cpuBAt [0xED, 0x52]).setHl 0x8000).setDe 1)).cpuB.main.f = 0x16 := by
  decide +kernel

/-- Vector E46. -/
theorem test_E46_rlca_keeps_s_z_pv :
    accB (after ((cpuBAt [0x07]).setAf 0x81C4)) = (0x03, 0xC5) := by
  decide +kernel

/-- Vector E56. -/
theorem test_E56_rrc_indexed :
    (after (((cpuBAt [0xDD, 0xCB, 0xFF, 0x0E]).setIndex .ix 0x4001).store 0x4000 0x01)).read 0x4000 = 0x80 := by
  decide +kernel

/-- Vector E57. -/
theorem test_E57_bit_seven :
    (after ((cpuBAt [0xCB, 0x7F]).setAf 0x8001)).cpuB.main.f = 0x91 := by
  decide +kernel

/-- Vector E64. -/
theorem test_E64_set_on_a_chip_register :
    (after (((cpuBAt [0xDD, 0xCB, 0x00, 0xC6]).setIndex .ix 0xD400).store 0xD400 0x10)).shadow.head? = some 0x11 := by
  decide +kernel

/-- Vector E65. -/
theorem test_E65_rld :
    (after ((((cpuBAt [0xED, 0x6F]).setHl 0x5000).setAf 0x7A01).store 0x5000 0x31)).af = 0x7301 := by
  decide +kernel

/-- Vector F8. -/
theorem test_F8_jr_wraps :
    (after (((cpuBAt []).setPcB 0x0010).loadBlock 0x0010 [0x18, 0x80])).cpuB.pc = 0xFF92 := by
  decide +kernel

/-- Vector F15. -/
theorem test_F15_djnz_from_zero :
    (after (cpuBAt [0x10, 0x10])).bc = 0xFF00 ∧ (after (cpuBAt [0x10, 0x10])).cpuB.pc = 0x8012 := by
  decide +kernel

/-- Vector F18. -/
theorem test_F18_call_c_pushes :
    (after ((cpuBAt [0xDC, 0x00, 0x90]).setF 1)).read16 0xFEFE = 0x8003 := by
  decide +kernel

/-- Vector F20. -/
theorem test_F20_ret_nz_not_taken :
    (after ((cpuBAt [0xC0]).setF 0x40)).cycles = 5 ∧ (after ((cpuBAt [0xC0]).setF 0x40)).cpuB.sp = 0xFF00 := by
  decide +kernel

/-- Vector F23. -/
theorem test_F23_retn_restores_iff1 :
    (after { cpuBAt [0xED, 0x45] with cpuB := { (cpuBAt []).cpuB with iff2 := true } }).cpuB.iff1 = true := by
  decide +kernel

/-- Vector F24. -/
theorem test_F24_rst :
    (after (cpuBAt [0xFF])).cpuB.pc = 0x0038 := by
  decide +kernel

/-- Vector F28. -/
theorem test_F28_out_selects_the_ay_register :
    (after (((ayAt [0xED, 0x79]).setBc 0xFFFD).setAf 0x0E00)).aySel = 0x0E := by
  decide +kernel

/-- From R488 and R534: `B` is decremented before the port is formed, 0xBFFD here. -/
theorem test_F32_outi_decrements_b_first :
    (after (((({ ayAt [0xED, 0xA3] with aySel := 3 }).setBc 0xC0FD).setHl 0x6000).store 0x6000 0x5A)).shadow[3]? = some 0x5A := by
  decide +kernel

/-- Vector F39. -/
theorem test_F39_halt_stays :
    (after (cpuBAt [0x76])).cpuB.pc = 0x8000 := by
  decide +kernel

/-- Vector F41. -/
theorem test_F41_ei_is_immediate :
    (after (cpuBAt [0xFB])).cpuB.iff1 = true ∧ (after (cpuBAt [0xFB])).cpuB.iff2 = true := by
  decide +kernel

/-- Vector F45. -/
theorem test_F45_lone_prefix_is_one_byte :
    (after (cpuBAt [0xDD, 0x04])).cpuB.pc = 0x8001 ∧ (after (cpuBAt [0xDD, 0x04])).cpuB.r = 0x01 := by
  decide +kernel

/-- Vector N2: pulse timer 253 is 440.40 Hz, note 69. -/
theorem test_N2_nes_reference :
    let sh : List Byte := [0x8F, 0, 0xFD, 0] ++ List.replicate 17 0 ++ [0x01, 0, 0]
    deriveVoices (Params.default .a .nesApu) sh =
      [⟨true, 253, some 15⟩, ⟨false, 0, some 0⟩, ⟨false, 0, none⟩, ⟨false, 0, some 0⟩] ∧
    frequencyToNote (voiceFrequency (Params.default .a .nesApu) sh 0 253) = some 69 := by
  decide +kernel

/-- Vector K6: POKEY channel 1 at the fast clock, note 126; by R549 the pure tone is on. -/
theorem test_K6_pokey_fast :
    let sh : List Byte := [0x48, 0xAF, 0, 0, 0, 0, 0, 0, 0x40]
    (deriveVoices (Params.default .a .pokey) sh).head? = some ⟨true, 72, some 15⟩ ∧
    frequencyToNote (voiceFrequency (Params.default .a .pokey) sh 0 72) = some 126 := by
  decide +kernel

/-- Vector Y6: the largest AY period, note 21; vector S4: the largest SID frequency, note 107. -/
theorem test_Y6_S4_extremes :
    frequencyToNote (ayFrequency (Params.default .b .ay) 4095) = some 21 ∧
    frequencyToNote (some (sidFrequency (Params.default .a .sid) 65535)) = some 107 := by
  decide +kernel

/-- Vector RA1: a routine that returns; vector RA3: one that never does, under a budget of 10. -/
theorem test_RA1_RA3_run_until_stack_depth :
    (runUntilStackDepth (((cpuAAt []).loadBlock 0x0300 [0xA9, 0x05, 0x60]).resetCpu 0x0300 0xFF) 0x0300 12).1 = 8 ∧
    (runUntilStackDepth (((cpuAAt []).loadBlock 0x0300 [0x4C, 0x00, 0x03]).resetCpu 0x0300 0xFF) 0x0300 10).1 = 12 := by
  decide +kernel

/-- Vector RB4: JR to itself under a budget of 30. -/
theorem test_RB4_run_until_stack_depth :
    (runUntilStackDepth (cpuBAt [0x18, 0xFE]) 0x8000 30).1 = 36 := by
  decide +kernel

/-! ### What the statements assume can be met -/

/-- StepRunsTheDecodedInstruction. -/
theorem witness_StepRunsTheDecodedInstruction :
    WellFormed (.aLda (.imm 0x80)) = true ∧
    let s := cpuAAt [0xA9, 0x80]
    decode s.params.cpu (s.read s.pc) (s.read (s.pc + 1)) (s.read (s.pc + 2)) (s.read (s.pc + 3)) = .aLda (.imm 0x80) := by
  decide +kernel

/-- DecodeOfEncode, for an instruction of four bytes and for a lone prefix before INC B. -/
theorem witness_DecodeOfEncode :
    (WellFormed (.bLdXyN .iy 0x80 0xFF) = true ∧
      ∀ k, Instr.bLdXyN .iy 0x80 0xFF = .bUnkXy k → xyOpcodes.contains (([] : List Byte).getD 0 0) = false) ∧
    WellFormed (.bUnkXy .ix) = true ∧
      ∀ k, Instr.bUnkXy .ix = .bUnkXy k → xyOpcodes.contains (([0x04] : List Byte).getD 0 0) = false :=
  ⟨⟨rfl, (fun _ h => by cases h)⟩, rfl, fun _ _ => by decide⟩

/-- StepKeepsTheInvariant: the reset state. -/
theorem witness_StepKeepsTheInvariant : State.reset.Inv ∧ ∃ t, step State.reset = .next t :=
  ⟨⟨rfl, rfl⟩, _, rfl⟩

/-- StepTouchesOnlyItsOwnCpu, for a session of each CPU. -/
theorem witness_StepTouchesOnlyItsOwnCpu :
    (∃ t, step (cpuAAt [0xE8]) = .next t ∧ (cpuAAt [0xE8]).params.cpu = .a) ∧
    ∃ t, step (ayAt [0xED, 0x79]) = .next t ∧ (ayAt [0xED, 0x79]).params.cpu = .b :=
  ⟨⟨_, rfl, rfl⟩, _, rfl, rfl⟩

/-- SpecialRegisterWriters, for an instruction that meets the premises of all five clauses, `R` about to wrap. -/
theorem witness_SpecialRegisterWriters :
    let s := { cpuBAt [] with cpuB := { (cpuBAt []).cpuB with r := 0x7F } }
    (∃ t, exec .bLdARefresh s = .next t) ∧ Instr.cpu .bLdARefresh = .b ∧ Instr.bLdARefresh ≠ .bDi ∧
    Instr.bLdARefresh ≠ .bEi ∧ Instr.bLdARefresh ≠ .bRetn ∧ (∀ m, Instr.bLdARefresh ≠ .bIm m) ∧
    Instr.bLdARefresh ≠ .bLdIA ∧ Instr.bLdARefresh ≠ .bLdRefreshA :=
  ⟨⟨_, rfl⟩, rfl, by decide, by decide, by decide, (fun _ h => by cases h), by decide, by decide⟩

/-- FlagBitsFiveAndThreeAreStorage: POP of another pair. -/
theorem witness_FlagBitsFiveAndThreeAreStorage :
    (∃ t, exec (.bPop .bc) (cpuBAt []) = .next t) ∧ Instr.bPop .bc ≠ .bPop .af ∧ Instr.bPop .bc ≠ .bExAf :=
  ⟨⟨_, rfl⟩, by decide, by decide⟩

/-- DecimalAndInterruptFlagsAreInert, for ADC with both clauses' premises. -/
theorem witness_DecimalAndInterruptFlagsAreInert :
    (∃ t, exec (.aAdc (.imm 0x19)) (cpuAAt []) = .next t) ∧ Instr.aAdc (.imm 0x19) ≠ .aPhp ∧
    Instr.aAdc (.imm 0x19) ≠ .aSed ∧ Instr.aAdc (.imm 0x19) ≠ .aCld ∧ Instr.aAdc (.imm 0x19) ≠ .aPlp ∧
    Instr.aAdc (.imm 0x19) ≠ .aSei ∧ Instr.aAdc (.imm 0x19) ≠ .aCli :=
  ⟨⟨_, rfl⟩, by decide, by decide, by decide, by decide, by decide, by decide⟩

/-- PcMovesPastTheInstruction, for each CPU. -/
theorem witness_PcMovesPastTheInstruction :
    (∃ t, exec (.aUnk 0xFF) (cpuAAt []) = .next t ∧ assignsPc (.aUnk 0xFF) = false ∧ Instr.cpu (.aUnk 0xFF) = .a) ∧
    ∃ t, exec .bOuti (cpuBAt []) = .next t ∧ assignsPc .bOuti = false ∧ Instr.cpu .bOuti = .b :=
  ⟨⟨_, rfl, rfl, rfl⟩, _, rfl, rfl, rfl⟩

/-- MemoryChangesOnlyByTheWrites: LD (HL),n on the first SID register; every clause's premise holds of it and the address
after. -/
theorem witness_MemoryChangesOnlyByTheWrites :
    let s := (cpuBAt []).setHl 0xD400
    (∃ t, exec (.bLdHlN 0x55) s = .next t) ∧ (∀ w ∈ memoryWrites s (.bLdHlN 0x55), w.1 ≠ 0xD401) ∧ s.params.chip ≠ .ay :=
  ⟨⟨_, rfl⟩, by
    intro w hw
    simp only [memoryWrites, List.mem_singleton] at hw
    subst hw
    decide +kernel, by decide⟩

/-- CycleTableIsInvisible. -/
theorem witness_CycleTableIsInvisible : ∃ t, exec .aNop (cpuAAt []) = .next t := ⟨_, rfl⟩

/-- CallAndReturnRoundTrip: on each CPU the state after the call itself meets the premises, the stack at its end. -/
theorem witness_CallAndReturnRoundTrip :
    (let s := (cpuAAt []).setS 0x00
     ∃ t, exec (.aJsr 0x9000) s = .next t ∧ t.cpuA.s = t.cpuA.s ∧
       t.read (stackAddrA s.cpuA.s) = t.read (stackAddrA s.cpuA.s) ∧
       t.read (stackAddrA (s.cpuA.s - 1)) = t.read (stackAddrA (s.cpuA.s - 1))) ∧
    let s := (cpuBAt []).setSp 0x0001
    (∃ t, exec (.bRst 7) s = .next t ∧
      (∃ k : Fin 8, Instr.bRst 7 = .bRst k ∧ (0x0038 : Word) = BitVec.ofNat 16 (8 * k.val) ∧ (1 : Word) = 1) ∧
      (∃ cc, Instr.bRetCc .nz = .bRetCc cc ∧ t.cond cc = true) ∧ t.cpuB.sp = t.cpuB.sp ∧
      t.read (s.cpuB.sp - 1) = t.read (s.cpuB.sp - 1) ∧ t.read (s.cpuB.sp - 2) = t.read (s.cpuB.sp - 2)) ∧
    ∃ t cc nn, exec (.bCallCc .po 0x9000) s = .next t ∧ Instr.bCallCc .po 0x9000 = .bCallCc cc nn ∧ s.cond cc = true :=
  ⟨⟨_, rfl, rfl, rfl, rfl⟩,
    ⟨_, rfl, ⟨7, rfl, rfl, rfl⟩, ⟨.nz, rfl, by decide +kernel⟩, rfl, rfl, rfl⟩, _, .po, 0x9000, rfl, rfl, by decide +kernel⟩

/-- ExchangesOfCpuB, its last clause. -/
theorem witness_ExchangesOfCpuB :
    (∃ t, exec .bExDeHl (cpuBAt []) = .next t) ∧ Instr.bExDeHl ≠ .bExAf ∧ Instr.bExDeHl ≠ .bExx :=
  ⟨⟨_, rfl⟩, by decide, by decide⟩

/-- DecimalAdjustIsDecimalArithmetic: 99 and 99, and the pair 0 and 99. -/
theorem witness_DecimalAdjustIsDecimalArithmetic :
    (let s := (cpuBAt []).setAf 0x9900 |>.setBc 0x9900
     s.reg .a = BitVec.ofNat 8 (16 * (99 / 10) + 99 % 10) ∧ s.reg .b = BitVec.ofNat 8 (16 * (99 / 10) + 99 % 10)) ∧
    let s := (cpuBAt []).setBc 0x9900
    s.reg .a = BitVec.ofNat 8 (16 * (0 / 10) + 0 % 10) ∧ s.reg .b = BitVec.ofNat 8 (16 * (99 / 10) + 99 % 10) := by
  decide +kernel

/-- AyPortDevice: the default port map has no entry for the port, and a map with two has a first one. -/
theorem witness_AyPortDevice :
    (∀ e ∈ (ayAt []).params.portMap, e.1 ≠ (0xBFFD : Word).toNat) ∧
    let s := { ayAt [] with params :=
      { Params.default .b .ay with portMap := [(0x00FE, .aySelect), (0xBFFD, .unmapped), (0xBFFD, .ayData)] } }
    s.params.portMap = [(0x00FE, .aySelect)] ++ ((0xBFFD : Word).toNat, .unmapped) :: [(0xBFFD, .ayData)] ∧
    ∀ e ∈ [((0x00FE : Nat), PortRole.aySelect)], e.1 ≠ (0xBFFD : Word).toNat := by
  decide +kernel

/-- PortInputOfCpuB: the default list has no entry for the port, and a list with one for the highest port has it. -/
theorem witness_PortInputOfCpuB :
    (∀ e ∈ (cpuBAt []).params.ioRead, e.1 ≠ (0x0000 : Word).toNat) ∧
    let s := { cpuBAt [] with params := { Params.default .b .sid with ioRead := [(0x7FFE, 0xBF), (0xFFFF, 0x12)] } }
    s.params.ioRead = [(0x7FFE, 0xBF)] ++ ((0xFFFF : Word).toNat, 0x12) :: [] ∧
    ∀ e ∈ [((0x7FFE : Nat), (0xBF : Byte))], e.1 ≠ (0xFFFF : Word).toNat := by
  decide +kernel

/-- DefaultCostTables: the default table has no entry for NOP, and a table with one at the least cost has it. -/
theorem witness_DefaultCostTables :
    (∀ e ∈ (cpuAAt []).params.cycles, e.opcode = opcodeKey .aNop → e.variant ≠ false) ∧
    let e : CycleEntry := ⟨0xEA, false, 1⟩
    let x : CycleEntry := ⟨0xEA, true, 9⟩
    ({ Params.default .a .sid with cycles := [x, e] }).cycles = [x] ++ e :: [] ∧
    (∀ y ∈ [x], y.opcode = opcodeKey .aNop → y.variant ≠ false) ∧ e.opcode = opcodeKey .aNop ∧ e.variant = false ∧
    1 ≤ e.cost := by
  decide +kernel

/-- VoicesOfEveryChip: the default parameters, and the last register of a register file. -/
theorem witness_VoicesOfEveryChip :
    (Params.default .a .pokey).gateNeedsVolume = true ∧
    (∀ v : Byte, (Params.default .a .pokey).pokeyTone.getLsbD v.toNat = (v &&& 0xA0 == 0xA0)) ∧
    ([0x48, 0xAF] : List Byte)[1]? = some 0xAF := by
  decide +kernel

/-- FrequencyToNoteIsTheFormula: a frequency below, at both ends of, and above the range. -/
theorem witness_FrequencyToNoteIsTheFormula :
    (((1999 : ℝ) / 100 < 20) ∧ (20 : ℝ) ≤ 20 / 1 ∧ (20000 : ℝ) / 1 ≤ 20000 ∧ (20000 : ℝ) < 2000001 / 100) ∧
    0 < (⟨1999, 100⟩ : Hz).den ∧ 0 < (⟨20, 1⟩ : Hz).den := by
  refine ⟨by norm_num, by decide, by decide⟩

/-- BudgetExpiryIsBounded: JMP to itself on CPU-A, JR to itself on CPU-B, under a budget. -/
theorem witness_BudgetExpiryIsBounded :
    (let s := cpuAAt [0x4C, 0x00, 0x02]
     s.params.cycles = [] ∧ (runUntilStackDepth s 0x0200 10).2.spr < s.spr) ∧
    let s := cpuBAt [0x18, 0xFE]
    s.params.cycles = [] ∧ (runUntilStackDepth s 0x8000 30).2.spr < s.spr := by
  decide +kernel

/-- A song on CPU-A with a NES APU whose init and tick routines are one RTS at 0x8000. -/
def song (sp : Word) : Song where
  params := Params.default .a .nesApu
  initMem := []
  initAddress := 0x8000
  tickAddress := 0x8000
  resetSp := sp
  tickBudget := 10
  tickRateHz := 50
  targetDurationSeconds := 1

/-- DriverLoadsAndTicks: a driver with a session (and so past Idle), one without, and a song on each side of the accepted
stack pointers. -/
theorem witness_DriverLoadsAndTicks :
    (song 2).ok = true ∧ (song 1).ok = false ∧ (song 0x0101).ok = false ∧
    (Driver.new (song 2)).session = none ∧
    ∃ d s, (Driver.new (song 2)).load [0x60] 0x8000 = some d ∧ d.session = some s ∧ d.phase ≠ .idle :=
  ⟨by decide +kernel, by decide +kernel, by decide +kernel, rfl, _, _, rfl, rfl, by decide +kernel⟩

end Sys2Proof.Tests
end

section
/-! PROOF. What every instruction whose rule does not assign `PC` has in common (00_scope.md R17): it ends as `runA` or
`runB` says, so `PC` comes out past it whatever its body does. -/

namespace Sys2Proof.Machine

/-- An instruction of CPU-A that passes by leaves `PC` past itself, whatever its body does. -/
theorem runA_next_pc {i : Instr} {body : State → State} {s t : State} (h : runA i body s = .next t) :
    t.cpuA.pc = s.cpuA.pc + BitVec.ofNat 16 i.length := by
  rw [runA_next h, State.charge_cpuA, State.setPcA_cpuA_pc]

/-- The same for CPU-B. -/
theorem runB_next_pc {i : Instr} {body : State → State} {s t : State} (h : runB i body s = .next t) :
    t.cpuB.pc = s.cpuB.pc + BitVec.ofNat 16 i.length := by
  rw [runB_next h, State.charge_cpuB, State.setPcB_cpuB_pc]

/-- An instruction whose rule does not assign `PC` is a body run by `runA` or `runB`, as its CPU says. The split is that of
`assignsPc` first, then that of `Instr.cpu`. -/
theorem exec_eq_run_of_not_assignsPc (i : Instr) (s : State) (hp : assignsPc i = false) :
    (i.cpu = .a ∧ ∃ body, exec i s = runA i body s) ∨ (i.cpu = .b ∧ ∃ body, exec i s = runB i body s) := by
  unfold exec
  cases i with
  | aBpl | aBmi | aBvc | aBvs | aBcc | aBcs | aBne | aBeq | aJmp | aJmpInd | aJsr | aRts
  | bJp | bJpCc | bJr | bJrCc | bJpHl | bJpXy | bDjnz | bCall | bCallCc | bRet | bRetCc | bReti | bRetn | bRst | bHalt
  | bLdir | bLddr | bCpir | bCpdr | bInir | bIndr | bOtir | bOtdr => cases hp
  | aLda | aLdx | aLdy | aSta | aStx | aSty | aTax | aTay | aTxa | aTya | aTsx | aTxs | aPha | aPhp | aPla | aPlp
  | aAdc | aSbc | aAnd | aOra | aEor | aCmp | aCpx | aCpy | aBit | aInc | aDec | aInx | aIny | aDex | aDey
  | aAsl | aLsr | aRol | aRor | aClc | aSec | aCli | aSei | aClv | aCld | aSed
  | aNop | aNop1 | aNop2 | aUnk | aBrk | aRti => exact .inl ⟨rfl, _, rfl⟩
  | _ => exact .inr ⟨rfl, _, rfl⟩

end Sys2Proof.Machine

namespace Sys2Proof.Proofs

open Sys2Proof.Machine

/-- Settles O13: the instruction is a body run by `runA` or `runB`, and those put `PC` past it. -/
theorem pcMovesPastTheInstruction : Obligations.PcMovesPastTheInstruction := by
  intro i s t h hp
  obtain ⟨hc, body, run⟩ | ⟨hc, body, run⟩ := exec_eq_run_of_not_assignsPc i s hp
  · exact ⟨fun _ => runA_next_pc (run ▸ h), fun hb => (nomatch hc.symm.trans hb)⟩
  · exact ⟨fun ha => (nomatch hc.symm.trans ha), fun _ => runB_next_pc (run ▸ h)⟩

end Sys2Proof.Proofs
end

section
/-! PROOF. What an instruction can do to the state, said once for all instructions (10_state.md R20, R25, R31 to R33,
R35): its body replaces registers and makes memory and port writes (`Body`), and `PC`, the cost and the advance of `R` come
with it (`Runs`, `exec_runs`). What every step keeps, which register an instruction may change, and that `P.D` and `P.I`
have no effect are then inductions over these few updates. -/

namespace Sys2Proof.Machine

/-! ### Other values of `P.D` and `P.I` -/

/-- CPU-A's registers with other values of `P.D` and `P.I`. -/
def CpuA.setDI (c : CpuA) (d k : Bool) : CpuA := { c with p := { c.p with d := d, i := k } }

/-- The state with other values of `P.D` and `P.I`. -/
def State.setDI (s : State) (d k : Bool) : State := { s with cpuA := s.cpuA.setDI d k }

/-- The instructions that read or write `P.D` or `P.I`. -/
abbrev UsesDI (i : Instr) : Prop := i ∈ [Instr.aPhp, .aPlp, .aCld, .aSed, .aCli, .aSei]

/-- What instruction `i` takes from the state comes out the same for all values of `P.D` and `P.I`, unless `i` is one of
the six that use them. -/
def Blind (i : Instr) {α : Type} (g : State → α) : Prop := ¬ UsesDI i → ∀ s d k, g (s.setDI d k) = g s

theorem State.write_setDI (s : State) (a : Word) (v : Byte) (d k : Bool) :
    (s.setDI d k).write a v = (s.write a v).setDI d k := by
  have same : ((s.setDI d k).store a v).chipIndex a = (s.store a v).chipIndex a := rfl
  unfold State.write State.forward
  rw [same]
  split <;> rfl

theorem State.ioWrite_setDI (s : State) (p : Word) (v : Byte) (d k : Bool) :
    (s.setDI d k).ioWrite p v = (s.ioWrite p v).setDI d k := by
  have chip : (s.setDI d k).params = s.params := rfl
  have sel : (s.setDI d k).aySel = s.aySel := rfl
  unfold State.ioWrite State.ayWrite
  rw [chip, sel]
  repeat' split
  all_goals rfl

/-! ### The form of the state -/

theorem State.write_inv (s : State) (a : Word) (v : Byte) (h : s.Inv) : (s.write a v).Inv :=
  ⟨State.write_wf s a v h.1, by rw [State.write_shadow_length, State.write_params, h.2]⟩

theorem State.ioWrite_inv (s : State) (p : Word) (v : Byte) (h : s.Inv) : (s.ioWrite p v).Inv :=
  ⟨by rw [State.ioWrite_mem, h.1], by rw [State.ioWrite_shadow_length, State.ioWrite_params, h.2]⟩

/-! ### The registers of CPU-B that have writers of their own -/

/-- CPU-B's registers `c'` come from `c` by a change that instruction `i` may make: `IFF1`, `IFF2`, `IM`, `I`, `R` and
bits 5 and 3 of `F` change by their own instructions only. -/
structure KeepsB (i : Instr) (c c' : CpuB) : Prop where
  iff1 : i ≠ .bDi → i ≠ .bEi → i ≠ .bRetn → c'.iff1 = c.iff1
  iff2 : i ≠ .bDi → i ≠ .bEi → c'.iff2 = c.iff2
  im : (∀ m, i ≠ .bIm m) → c'.im = c.im
  page : i ≠ .bLdIA → c'.i = c.i
  refresh : i ≠ .bLdRefreshA → c'.r = c.r
  storage : i ≠ .bPop .af → i ≠ .bExAf → bit c'.main.f 5 = bit c.main.f 5 ∧ bit c'.main.f 3 = bit c.main.f 3

theorem KeepsB.refl (i : Instr) (c : CpuB) : KeepsB i c c :=
  ⟨fun _ _ _ => rfl, fun _ _ => rfl, fun _ => rfl, fun _ => rfl, fun _ => rfl, fun _ _ => ⟨rfl, rfl⟩⟩

theorem KeepsB.trans {i : Instr} {c c' c'' : CpuB} (h : KeepsB i c c') (h' : KeepsB i c' c'') : KeepsB i c c'' where
  iff1 di ei retn := (h'.iff1 di ei retn).trans (h.iff1 di ei retn)
  iff2 di ei := (h'.iff2 di ei).trans (h.iff2 di ei)
  im m := (h'.im m).trans (h.im m)
  page n := (h'.page n).trans (h.page n)
  refresh n := (h'.refresh n).trans (h.refresh n)
  storage pop ex :=
    ⟨(h'.storage pop ex).1.trans (h.storage pop ex).1, (h'.storage pop ex).2.trans (h.storage pop ex).2⟩

theorem State.write_flags (s : State) (a : Word) (v : Byte) : (s.write a v).flags = s.flags := by
  rw [State.flags, State.write_cpuB, State.flags]

/-! ### Bodies -/

/-- The bodies instruction `i` may have: updates one after another. What an update stores is taken from the state `s`
before the instruction; the registers it leaves alone are those of `f s`, after the updates before it. -/
inductive Body (i : Instr) : (State → State) → Prop
  | skip : Body i (fun s => s)
  | cpuA {f : State → State} {g : State → CpuA → CpuA} (hf : Body i f)
      (hg : ¬ UsesDI i → ∀ s c d k, g (s.setDI d k) (c.setDI d k) = (g s c).setDI d k) :
      Body i (fun s => { f s with cpuA := g s (f s).cpuA })
  | cpuB {α : Type} {f : State → State} {v : State → α} {g : α → CpuB → CpuB} (hf : Body i f)
      (keeps : ∀ x c, KeepsB i c (g x c)) (hv : Blind i v := by exact fun _ _ _ _ => rfl) :
      Body i (fun s => { f s with cpuB := g (v s) (f s).cpuB })
  | write {f : State → State} {a : State → Word} {v : State → Byte} (hf : Body i f)
      (ha : Blind i a := by exact fun _ _ _ _ => rfl) (hv : Blind i v := by exact fun _ _ _ _ => rfl) :
      Body i (fun s => (f s).write (a s) (v s))
  | ioWrite {f : State → State} {p : State → Word} {v : State → Byte} (hf : Body i f)
      (hp : Blind i p := by exact fun _ _ _ _ => rfl) (hv : Blind i v := by exact fun _ _ _ _ => rfl) :
      Body i (fun s => (f s).ioWrite (p s) (v s))
  | ite {f : State → State} {c : State → Bool} (hf : Body i f) (hc : Blind i c) :
      Body i (fun s => if c s then f s else s)

section
variable {i : Instr} {f : State → State}

/-- A body keeps memory canonical and `SHADOW` at `CHIP_SIZE` bytes. -/
theorem Body.inv (h : Body i f) (s : State) (hs : s.Inv) : (f s).Inv := by
  induction h with
  | skip => exact hs
  | cpuA _ _ ih | cpuB _ _ _ ih => exact ih
  | write _ _ _ ih => exact State.write_inv _ _ _ ih
  | ioWrite _ _ _ ih => exact State.ioWrite_inv _ _ _ ih
  | ite _ _ ih => beta_reduce; split <;> [exact ih; exact hs]

/-- A body changes those of CPU-B's registers only that its instruction may change. -/
theorem Body.keepsB (h : Body i f) (s : State) : KeepsB i s.cpuB (f s).cpuB := by
  induction h with
  | skip => exact .refl _ _
  | cpuA _ _ ih => exact ih
  | cpuB _ keeps _ ih => exact ih.trans (keeps _ _)
  | write _ _ _ ih => rwa [State.write_cpuB]
  | ioWrite _ _ _ ih => rwa [State.ioWrite_cpuB]
  | ite _ _ ih => beta_reduce; split <;> [exact ih; exact .refl _ _]

/-- A body does the same for all values of `P.D` and `P.I`. -/
theorem Body.setDI (h : Body i f) (n : ¬ UsesDI i) (s : State) (d k : Bool) : f (s.setDI d k) = (f s).setDI d k := by
  induction h with
  | skip => rfl
  | @cpuA f g _ hg ih =>
    have regs : g (s.setDI d k) ((f s).setDI d k).cpuA = (g s (f s).cpuA).setDI d k := hg n _ _ _ _
    beta_reduce; rw [ih, regs]; rfl
  | cpuB _ _ hv ih => beta_reduce; rw [ih, hv n]; rfl
  | write _ ha hv ih => beta_reduce; rw [ih, ha n, hv n, State.write_setDI]
  | ioWrite _ hp hv ih => beta_reduce; rw [ih, hp n, hv n, State.ioWrite_setDI]
  | ite _ hc ih => beta_reduce; rw [hc n]; split <;> [exact ih; rfl]

end

/-! ### The updates of the instruction rules as bodies -/

section
variable {i : Instr} {f : State → State}

theorem Body.setA {v : State → Byte} (hf : Body i f) (hv : Blind i v := by exact fun _ _ _ _ => rfl) :
    Body i (fun s => (f s).setA (v s)) :=
  .cpuA (g := fun s c => { c with a := v s }) hf (fun n s c d k => by rw [hv n]; rfl)

theorem Body.setX {v : State → Byte} (hf : Body i f) (hv : Blind i v := by exact fun _ _ _ _ => rfl) :
    Body i (fun s => (f s).setX (v s)) :=
  .cpuA (g := fun s c => { c with x := v s }) hf (fun n s c d k => by rw [hv n]; rfl)

theorem Body.setY {v : State → Byte} (hf : Body i f) (hv : Blind i v := by exact fun _ _ _ _ => rfl) :
    Body i (fun s => (f s).setY (v s)) :=
  .cpuA (g := fun s c => { c with y := v s }) hf (fun n s c d k => by rw [hv n]; rfl)

theorem Body.setS {v : State → Byte} (hf : Body i f) (hv : Blind i v := by exact fun _ _ _ _ => rfl) :
    Body i (fun s => (f s).setS (v s)) :=
  .cpuA (g := fun s c => { c with s := v s }) hf (fun n s c d k => by rw [hv n]; rfl)

theorem Body.setNZ {v : State → Byte} (hf : Body i f) (hv : Blind i v := by exact fun _ _ _ _ => rfl) :
    Body i (fun s => (f s).setNZ (v s)) :=
  .cpuA (g := fun s c => { c with p := c.p.nz (v s) }) hf (fun n s c d k => by rw [hv n]; rfl)

/-- Flags computed from the old ones, with `D` and `I` taken over as they are. -/
theorem Body.setP {p : State → PFlags} (hf : Body i f)
    (hp : ¬ UsesDI i → ∀ s d k, p (s.setDI d k) = { p s with d := d, i := k } := by exact fun _ _ _ _ => rfl) :
    Body i (fun s => (f s).setP (p s)) :=
  .cpuA (g := fun s c => { c with p := p s }) hf (fun n s c d k => by rw [hp n]; rfl)

/-- Everything of CPU-B but `IFF1`, `IFF2`, `IM`, `I`, `R` and bits 5 and 3 of `F` is any instruction's to change. -/
theorem KeepsB.ordinary (i : Instr) (c : CpuB) (main alt : Bank) (ix iy sp pc : Word)
    (bits : bit main.f 5 = bit c.main.f 5 ∧ bit main.f 3 = bit c.main.f 3) :
    KeepsB i c { c with main := main, alt := alt, ix := ix, iy := iy, sp := sp, pc := pc } :=
  ⟨fun _ _ _ => rfl, fun _ _ => rfl, fun _ => rfl, fun _ => rfl, fun _ => rfl, fun _ _ => bits⟩

theorem Body.setMain {α : Type} {v : State → α} {g : α → Bank → Bank} (hf : Body i f) (hv : Blind i v)
    (bits : ∀ x m, bit (g x m).f 5 = bit m.f 5 ∧ bit (g x m).f 3 = bit m.f 3) :
    Body i (fun s => (f s).setMain (g (v s) (f s).cpuB.main)) :=
  .cpuB (g := fun x c => { c with main := g x c.main }) hf
    (fun x c => .ordinary i c _ _ _ _ _ _ (bits x c.main)) hv

/-- A bank with one register replaced. -/
def Bank.set (m : Bank) (r : Reg8) (v : Byte) : Bank :=
  match r with
  | .b => { m with b := v }
  | .c => { m with c := v }
  | .d => { m with d := v }
  | .e => { m with e := v }
  | .h => { m with h := v }
  | .l => { m with l := v }
  | .a => { m with a := v }

theorem State.setReg_eq_setMain (s : State) (r : Reg8) (v : Byte) : s.setReg r v = s.setMain (s.cpuB.main.set r v) := by
  cases r <;> rfl

theorem Bank.set_f (m : Bank) (r : Reg8) (v : Byte) : (m.set r v).f = m.f := by cases r <;> rfl

theorem Body.setReg {r : Reg8} {v : State → Byte} (hf : Body i f) (hv : Blind i v := by exact fun _ _ _ _ => rfl) :
    Body i (fun s => (f s).setReg r (v s)) := by
  simp only [State.setReg_eq_setMain]
  exact .setMain (g := fun x m => m.set r x) hf hv (fun _ _ => by rw [Bank.set_f]; exact ⟨rfl, rfl⟩)

theorem Body.setFlags {fl : State → FlagSet} (hf : Body i f) (hv : Blind i fl := by exact fun _ _ _ _ => rfl) :
    Body i (fun s => (f s).setFlags (fl s)) :=
  .setMain (v := fl) (g := fun fl m => { m with f := fl.into m.f }) hf hv
    (fun _ _ => ⟨FlagSet.into_bit_five _ _, FlagSet.into_bit_three _ _⟩)

theorem Body.setBc {w : State → Word} (hf : Body i f) (hw : Blind i w := by exact fun _ _ _ _ => rfl) :
    Body i (fun s => (f s).setBc (w s)) :=
  .setMain (g := fun w m => { m with b := hiByte w, c := loByte w }) hf hw (fun _ _ => ⟨rfl, rfl⟩)

theorem Body.setDe {w : State → Word} (hf : Body i f) (hw : Blind i w := by exact fun _ _ _ _ => rfl) :
    Body i (fun s => (f s).setDe (w s)) :=
  .setMain (g := fun w m => { m with d := hiByte w, e := loByte w }) hf hw (fun _ _ => ⟨rfl, rfl⟩)

theorem Body.setHl {w : State → Word} (hf : Body i f) (hw : Blind i w := by exact fun _ _ _ _ => rfl) :
    Body i (fun s => (f s).setHl (w s)) :=
  .setMain (g := fun w m => { m with h := hiByte w, l := loByte w }) hf hw (fun _ _ => ⟨rfl, rfl⟩)

theorem Body.setSp {w : State → Word} (hf : Body i f) (hw : Blind i w := by exact fun _ _ _ _ => rfl) :
    Body i (fun s => (f s).setSp (w s)) :=
  .cpuB (g := fun w c => { c with sp := w }) hf (fun _ c => .ordinary i c _ _ _ _ _ _ ⟨rfl, rfl⟩) hw

theorem Body.setIndex {x : Index} {w : State → Word} (hf : Body i f)
    (hw : Blind i w := by exact fun _ _ _ _ => rfl) : Body i (fun s => (f s).setIndex x (w s)) := by
  cases x with
  | ix => exact .cpuB (g := fun w c => { c with ix := w }) hf (fun _ c => .ordinary i c _ _ _ _ _ _ ⟨rfl, rfl⟩) hw
  | iy => exact .cpuB (g := fun w c => { c with iy := w }) hf (fun _ c => .ordinary i c _ _ _ _ _ _ ⟨rfl, rfl⟩) hw

theorem Body.setPair {p : Pair} {w : State → Word} (hf : Body i f) (hw : Blind i w := by exact fun _ _ _ _ => rfl) :
    Body i (fun s => (f s).setPair p (w s)) := by
  cases p with
  | bc => exact .setBc hf hw
  | de => exact .setDe hf hw
  | hl => exact .setHl hf hw
  | sp => exact .setSp hf hw

end

/-- The location of INC, DEC and the CB family, written first. -/
theorem Body.setLoc8 {i : Instr} {q : Loc8} {v : State → Byte} (hv : Blind i v := by exact fun _ _ _ _ => rfl) :
    Body i (fun s => s.setLoc8 q (v s)) := by
  cases q with
  | reg r => exact .setReg .skip hv
  | hl => exact .write .skip (hv := hv)
  | idx x d => exact .write .skip (hv := hv)

/-- The target of CPU-A's shifts and rotates, written first. -/
theorem Body.setTarget {i : Instr} {q : ATarget} {v : State → Byte} (hv : Blind i v := by exact fun _ _ _ _ => rfl) :
    Body i (fun s => s.setTarget q (v s)) := by
  cases q with
  | acc => exact .setA .skip hv
  | mem m => exact .write .skip (hv := hv)

/-! ### Instructions -/

/-- How instruction `i` runs: its body, then `PC` at an address and the cost of a variant; on CPU-B the advance of `R`
comes first. Address and variant are taken from the state before the instruction. -/
inductive Runs (i : Instr) : (State → Result) → Prop
  | a {f : State → State} {w : State → Word} {v : State → Bool} (hf : Body i f)
      (hw : Blind i w := by exact fun _ _ _ _ => rfl) (hv : Blind i v := by exact fun _ _ _ _ => rfl)
      (hc : i.cpu = .a := by exact rfl) : Runs i (fun s => jumpA i (v s) f (w s) s)
  | b {f : State → State} {w : State → Word} {v : State → Bool} (hf : Body i f)
      (hw : Blind i w := by exact fun _ _ _ _ => rfl) (hv : Blind i v := by exact fun _ _ _ _ => rfl)
      (hc : i.cpu = .b := by exact rfl) : Runs i (fun s => jumpB i (v s) f (w s) s)

section
variable {i : Instr} {f : State → State}

theorem Blind.select {α : Type} {c : State → Bool} {v w : State → α} (hc : Blind i c)
    (hv : Blind i v := by exact fun _ _ _ _ => rfl) (hw : Blind i w := by exact fun _ _ _ _ => rfl) :
    Blind i (fun s => if c s then v s else w s) :=
  fun n s d k => by simp only [hc n, hv n, hw n]

theorem Runs.passA (hf : Body i f) (hc : i.cpu = .a := by exact rfl) : Runs i (runA i f) :=
  .a (v := fun _ => false) hf (hc := hc)

theorem Runs.passB (hf : Body i f) (hc : i.cpu = .b := by exact rfl) : Runs i (runB i f) :=
  .b (v := fun _ => false) hf (hc := hc)

theorem Runs.branch {e : Byte} {taken : State → Bool} (ht : Blind i taken := by exact fun _ _ _ _ => rfl)
    (hc : i.cpu = .a := by exact rfl) : Runs i (fun s => branchA i (taken s) e s) :=
  .a (f := id) .skip ht.select ht hc

/-- A repeating block instruction: whether it repeats is seen after the body. -/
theorem Runs.repeating {again : State → Bool} (hf : Body i f) (ha : Blind i again := by exact fun _ _ _ _ => rfl)
    (hc : i.cpu = .b := by exact rfl) : Runs i (repeatB i f again) := by
  have more : Blind i (fun s => again (f (s.advanceR i.fetches))) := fun n s d k =>
    (congrArg again (hf.setDI n (s.advanceR i.fetches) d k)).trans (ha n _ d k)
  have split : repeatB i f again = fun s => jumpB i (again (f (s.advanceR i.fetches))) f
      (if again (f (s.advanceR i.fetches)) then s.cpuB.pc else s.cpuB.pc + BitVec.ofNat 16 i.length) s := by
    funext s
    cases h : again (f (s.advanceR i.fetches)) <;> simp [repeatB, jumpB, h]
  rw [split]
  exact .b hf more.select more hc

/-- A conditional call or return: where the condition holds the body runs and `PC` is set, else the instruction passes
by. -/
theorem Runs.conditional {c : State → Bool} {w : State → Word} (hf : Body i f) (hb : Blind i c)
    (same : ∀ s n, c (s.advanceR n) = c s) (hw : Blind i w := by exact fun _ _ _ _ => rfl)
    (hc : i.cpu = .b := by exact rfl) : Runs i (fun s => if c s then jumpB i true f (w s) s else runB i id s) := by
  have split : (fun s => if c s then jumpB i true f (w s) s else runB i id s) = fun s =>
      jumpB i (c s) (fun s => if c s then f s else s)
        (if c s then w s else s.cpuB.pc + BitVec.ofNat 16 i.length) s := by
    funext s
    cases h : c s <;> simp [jumpB, runB, same, h]
  rw [split]
  exact .b (.ite hf hb) (hb.select hw) hb hc

end

/-- A condition depends on CPU-B's flags alone. -/
theorem State.cond_congr {s t : State} (h : t.cpuB.main.f = s.cpuB.main.f) (cc : Cond) : t.cond cc = s.cond cc := by
  cases cc <;> simp only [State.cond, h]

theorem State.cond_blind (i : Instr) (cc : Cond) : Blind i (fun s => s.cond cc) :=
  fun _ _ _ _ => State.cond_congr rfl cc

theorem State.jrCond_blind (i : Instr) (cc : JrCond) : Blind i (fun s => s.jrCond cc) := by
  cases cc <;> exact fun _ _ _ _ => rfl

/-! The instructions that write a register of their own, or bits 5 and 3 of `F`. -/

theorem execBLdIA_runs : Runs .bLdIA execBLdIA :=
  .passB (.cpuB (v := fun s => s.cpuB.main.a) (g := fun a c => { c with i := a }) .skip
    (fun _ c => { KeepsB.refl _ c with page := fun n => absurd rfl n }))

theorem execBLdRefreshA_runs : Runs .bLdRefreshA execBLdRefreshA :=
  .passB (.cpuB (v := fun s => s.cpuB.main.a) (g := fun a c => { c with r := a }) .skip
    (fun _ c => { KeepsB.refl _ c with refresh := fun n => absurd rfl n }))

theorem execBDi_runs : Runs .bDi execBDi :=
  .passB (.cpuB (v := fun _ => ()) (g := fun _ c => { c with iff1 := false, iff2 := false }) .skip
    (fun _ c => { KeepsB.refl _ c with iff1 := fun n _ _ => absurd rfl n, iff2 := fun n _ => absurd rfl n }))

theorem execBEi_runs : Runs .bEi execBEi :=
  .passB (.cpuB (v := fun _ => ()) (g := fun _ c => { c with iff1 := true, iff2 := true }) .skip
    (fun _ c => { KeepsB.refl _ c with iff1 := fun _ n _ => absurd rfl n, iff2 := fun _ n => absurd rfl n }))

theorem execBRetn_runs : Runs .bRetn execBRetn :=
  .b (.cpuB (v := fun s => s.cpuB.iff2) (g := fun b c => { c with iff1 := b }) (.setSp .skip)
    (fun _ c => { KeepsB.refl _ c with iff1 := fun _ _ n => absurd rfl n }))

theorem execBIm_runs (m : IntMode) : Runs (.bIm m) (execBIm m) :=
  .passB (.cpuB (v := fun _ => ()) (g := fun _ c => { c with im := m }) .skip
    (fun _ c => { KeepsB.refl _ c with im := fun n => absurd rfl (n m) }))

theorem execBPop_runs (q : StackPair) : Runs (.bPop q) (execBPop q) := by
  unfold execBPop
  cases q with
  | bc => exact .passB (.setBc (.setSp .skip))
  | de => exact .passB (.setDe (.setSp .skip))
  | hl => exact .passB (.setHl (.setSp .skip))
  | af =>
    exact .passB (.cpuB (v := fun s => s.popped16B)
      (g := fun w c => { c with main := { c.main with a := hiByte w, f := loByte w } }) (.setSp .skip)
      (fun _ c => { KeepsB.refl _ c with storage := fun n _ => absurd rfl n }))

theorem execBExAf_runs : Runs .bExAf execBExAf :=
  .passB (.cpuB (v := fun _ => ())
    (g := fun _ c => { c with main := { c.main with a := c.alt.a, f := c.alt.f },
                              alt := { c.alt with a := c.main.a, f := c.main.f } }) .skip
    (fun _ c => { KeepsB.refl _ c with storage := fun _ n => absurd rfl n }))

/-- EXX leaves `F` in its bank. -/
theorem execBExx_runs : Runs .bExx execBExx :=
  .passB (.cpuB (v := fun _ => ())
    (g := fun _ c => { c with main := { c.alt with a := c.main.a, f := c.main.f },
                              alt := { c.main with a := c.alt.a, f := c.alt.f } }) .skip
    (fun _ c => .ordinary _ c _ _ _ _ _ _ ⟨rfl, rfl⟩))

/-- Every instruction runs a body of its own: the split is that of the instruction rules by the updates they make. -/
theorem exec_runs (i : Instr) : Runs i (exec i) := by
  unfold exec
  cases i with
  -- CPU-A
  | aLda | aTxa | aTya | aAnd | aOra | aEor => exact .passA (.setNZ (.setA .skip))
  | aLdx | aTax | aTsx | aInx | aDex => exact .passA (.setNZ (.setX .skip))
  | aLdy | aTay | aIny | aDey => exact .passA (.setNZ (.setY .skip))
  | aTxs => exact .passA (.setS .skip)
  | aSta | aStx | aSty => exact .passA (.write .skip)
  | aInc | aDec => exact .passA (.setNZ (.write .skip))
  | aPha => exact .passA (.setS (.write .skip))
  | aPhp => exact .passA (.setS (.write .skip (hv := fun n => absurd (by decide) n)))
  | aPla => exact .passA (.setNZ (.setA (.setS .skip)))
  | aPlp => exact .passA (.setP (.setS .skip) (fun n => absurd (by decide) n))
  | aCld | aSed | aCli | aSei => exact .passA (.setP .skip (fun n => absurd (by decide) n))
  | aAdc | aSbc => exact .passA (.setP (.setA .skip))
  | aCmp | aCpx | aCpy | aBit | aClc | aSec | aClv => exact .passA (.setP .skip)
  | aAsl | aLsr | aRol | aRor => exact .passA (.setP .setTarget)
  | aBpl | aBmi | aBvc | aBvs | aBcc | aBcs | aBne | aBeq => exact .branch
  | aJmp | aJmpInd => exact .a .skip
  | aJsr => exact .a (.setS (.write (.setS (.write .skip))))
  | aRts => exact .a (.setS (.setS .skip))
  | aNop | aNop1 | aNop2 | aUnk | aBrk | aRti => exact .passA .skip
  -- CPU-B: loads, stack, exchanges
  | bLdRR | bLdRN | bLdRHl | bLdRXy | bLdABc | bLdADe | bLdAMem | bInAN => exact .passB (.setReg .skip)
  | bLdHlR | bLdXyR | bLdHlN | bLdXyN | bLdBcA | bLdDeA | bLdMemA => exact .passB (.write .skip)
  | bLdAI | bLdARefresh => exact .passB (.setFlags (.setReg .skip))
  | bLdIA => exact execBLdIA_runs
  | bLdRefreshA => exact execBLdRefreshA_runs
  | bLdDdNn | bLdDdMem | bIncSs | bDecSs => exact .passB (.setPair .skip)
  | bLdXyNn | bLdXyMem | bIncXy | bDecXy => exact .passB (.setIndex .skip)
  | bLdHlMem => exact .passB (.setHl .skip)
  | bLdMemHl | bLdMemDd | bLdMemXy => exact .passB (.write (.write .skip))
  | bLdSpHl | bLdSpXy => exact .passB (.setSp .skip)
  | bPush | bPushXy => exact .passB (.setSp (.write (.write .skip)))
  | bPop q => exact execBPop_runs q
  | bPopXy => exact .passB (.setIndex (.setSp .skip))
  | bExDeHl => exact .passB (.setHl (.setDe .skip))
  | bExAf => exact execBExAf_runs
  | bExx => exact execBExx_runs
  | bExSpHl => exact .passB (.setHl (.write (.write .skip)))
  | bExSpXy => exact .passB (.setIndex (.write (.write .skip)))
  | bLdi | bLdd => exact .passB (.setFlags (.setBc (.setDe (.setHl (.write .skip)))))
  | bLdir | bLddr => exact .repeating (.setFlags (.setBc (.setDe (.setHl (.write .skip)))))
  | bCpi | bCpd => exact .passB (.setFlags (.setBc (.setHl .skip)))
  | bCpir | bCpdr => exact .repeating (.setFlags (.setBc (.setHl .skip)))
  -- CPU-B: arithmetic, logic, rotates, bits
  | bAdd | bAdc | bSub | bSbc | bAnd | bXor | bOr | bDaa | bCpl | bNeg | bRlca | bRla | bRrca | bRra | bInRC =>
    exact .passB (.setFlags (.setReg .skip))
  | bCp | bCcf | bScf | bBit => exact .passB (.setFlags .skip)
  | bInc | bDec | bRlc | bRrc | bRl | bRr | bSla | bSra | bSrl => exact .passB (.setFlags .setLoc8)
  | bSet | bRes => exact .passB .setLoc8
  | bRld | bRrd =>
    exact .passB (.setFlags (.setReg (.write .skip)) (fun _ _ _ _ => by simp only [State.write_flags]; rfl))
  | bAddHl | bAdcHl | bSbcHl => exact .passB (.setFlags (.setHl .skip))
  | bAddXy => exact .passB (.setFlags (.setIndex .skip))
  -- CPU-B: jumps, calls, returns
  | bJp | bJr | bJpHl | bJpXy | bHalt => exact .b .skip
  | bJpCc cc => exact .b .skip (State.cond_blind _ cc).select
  | bJrCc cc => exact .b .skip (State.jrCond_blind _ cc).select (State.jrCond_blind _ cc)
  -- the rule of DJNZ reads `B` before the advance of `R`, which leaves it alone
  | bDjnz => exact .b (f := fun s => s.setReg .b (s.reg .b - 1)) (.setReg .skip)
  | bCall | bRst => exact .b (.setSp (.write (.write .skip)))
  | bCallCc cc =>
    exact .conditional (.setSp (.write (.write .skip))) (State.cond_blind _ cc) (fun _ _ => State.cond_congr rfl cc)
  | bRet | bReti => exact .b (.setSp .skip)
  | bRetCc cc => exact .conditional (.setSp .skip) (State.cond_blind _ cc) (fun _ _ => State.cond_congr rfl cc)
  | bRetn => exact execBRetn_runs
  -- CPU-B: ports, control
  | bIni | bInd => exact .passB (.setFlags (.setReg (.setHl (.write .skip))))
  | bInir | bIndr => exact .repeating (.setFlags (.setReg (.setHl (.write .skip))))
  | bOutNA | bOutCR => exact .passB (.ioWrite .skip)
  | bOuti | bOutd => exact .passB (.setFlags (.setReg (.setHl (.ioWrite .skip))))
  | bOtir | bOtdr => exact .repeating (.setFlags (.setReg (.setHl (.ioWrite .skip))))
  | bDi => exact execBDi_runs
  | bEi => exact execBEi_runs
  | bIm m => exact execBIm_runs m
  | bNop | bUnkCb | bUnkEd | bUnkXy | bUnkXycb => exact .passB .skip

/-! ### What every instruction keeps -/

section
variable {i : Instr} {e : State → Result} {s t : State}

/-- Every instruction keeps memory canonical and `SHADOW` at `CHIP_SIZE` bytes. -/
theorem Runs.inv (h : Runs i e) (hs : s.Inv) (ht : e s = .next t) : t.Inv := by
  cases h with
  | a hf => rw [jumpA_next ht]; exact hf.inv s hs
  | b hf => rw [jumpB_next ht]; exact hf.inv (s.advanceR i.fetches) hs

/-- CPU-B's registers after an instruction: only CPU-B's instructions advance `R`, and every other change is one the
instruction may make. -/
theorem Runs.keepsB (h : Runs i e) (ht : e s = .next t) :
    (i.cpu = .a ∧ KeepsB i s.cpuB t.cpuB) ∨ (i.cpu = .b ∧ KeepsB i (s.advanceR i.fetches).cpuB t.cpuB) := by
  cases h with
  | a hf _ _ hc => rw [jumpA_next ht]; exact .inl ⟨hc, hf.keepsB s⟩
  | b hf _ _ hc =>
    rw [jumpB_next ht]
    exact .inr ⟨hc, (hf.keepsB _).trans (.ordinary i _ _ _ _ _ _ _ ⟨rfl, rfl⟩)⟩

/-- An instruction that does not use `P.D` or `P.I` carries other values of them along and does the same besides. -/
theorem Runs.setDI (h : Runs i e) (n : ¬ UsesDI i) (ht : e s = .next t) (d k : Bool) :
    e (s.setDI d k) = .next (t.setDI d k) := by
  cases h with
  | a hf hw hv => rw [jumpA_next ht]; beta_reduce; rw [hw n, hv n, jumpA, hf.setDI n]; rfl
  | @b f _ _ hf hw hv =>
    have body : f ((s.setDI d k).advanceR i.fetches) = (f (s.advanceR i.fetches)).setDI d k :=
      hf.setDI n (s.advanceR i.fetches) d k
    rw [jumpB_next ht]; beta_reduce; rw [hw n, hv n, jumpB, body]; rfl

end

/-- The opcode fetches that `R` counts, from the bytes of the encoding: two where the first byte is 0xCB, 0xDD, 0xED or
0xFD and is not the whole instruction, else one (R32, R520). -/
theorem fetches_eq_of_encode (i : Instr) (hb : i.cpu = .b) :
    i.fetches = if 2 ≤ i.length ∧ (encode i).getD 0 0 ∈ [0xCB#8, 0xDD#8, 0xED#8, 0xFD#8] then 2 else 1 := by
  cases i with
  | bAdd m | bAdc m | bSub m | bSbc m | bAnd m | bXor m | bOr m | bCp m =>
    cases m with
    | reg | imm | hl => rfl
    | idx x d => cases x <;> rfl
  | bInc v | bDec v | bRlc v | bRrc v | bRl v | bRr v | bSla v | bSra v | bSrl v | bBit _ v | bSet _ v
  | bRes _ v =>
    cases v with
    | reg | hl => rfl
    | idx x d => cases x <;> rfl
  | bLdRN r => cases r <;> rfl
  | bLdDdNn p => cases p <;> rfl
  | bJpCc cc | bCallCc cc => cases cc <;> rfl
  | bJrCc cc => cases cc <;> rfl
  | bIm m => cases m <;> rfl
  | bLdRXy _ x | bLdXyR x | bLdXyN x | bLdXyNn x | bLdXyMem x | bLdMemXy _ x | bLdSpXy x | bPushXy x | bPopXy x
  | bExSpXy x | bAddXy x | bIncXy x | bDecXy x | bJpXy x | bUnkXy x | bUnkXycb x => cases x <;> rfl
  | bLdRR | bLdRHl | bLdHlR | bLdHlN | bLdABc | bLdADe | bLdAMem | bLdBcA | bLdDeA | bLdMemA | bLdAI | bLdARefresh
  | bLdIA | bLdRefreshA | bLdHlMem | bLdDdMem | bLdMemHl | bLdMemDd | bLdSpHl | bPush | bPop | bExDeHl | bExAf | bExx
  | bExSpHl | bLdi | bLdir | bLdd | bLddr | bCpi | bCpir | bCpd | bCpdr | bDaa | bCpl | bNeg | bCcf | bScf | bAddHl
  | bAdcHl | bSbcHl | bIncSs | bDecSs | bRlca | bRla | bRrca | bRra | bRld | bRrd | bJp | bJr | bJpHl | bDjnz | bCall
  | bRet | bRetCc | bReti | bRetn | bRst | bInAN | bInRC | bIni | bInir | bInd | bIndr | bOutNA | bOutCR | bOuti | bOtir
  | bOutd | bOtdr | bNop | bHalt | bDi | bEi | bUnkCb | bUnkEd => rfl
  | _ => cases hb

end Sys2Proof.Machine

namespace Sys2Proof.Proofs

open Sys2Proof.Machine

/-- Settles O8: a step is an instruction, and the updates an instruction makes keep the form of the state. -/
theorem stepKeepsTheInvariant : Obligations.StepKeepsTheInvariant :=
  fun s _ hs ht => (exec_runs s.fetch).inv hs ht

/-- Settles O10: each register changes as `KeepsB` says, after `R` has been advanced. -/
theorem specialRegisterWriters : Obligations.SpecialRegisterWriters := by
  intro i s t ht fetches
  obtain ⟨hc, keeps⟩ | ⟨hc, keeps⟩ := (exec_runs i).keepsB ht
  · exact ⟨keeps.iff1, keeps.iff2, keeps.im, keeps.page, fun hb => nomatch hc.symm.trans hb⟩
  · refine ⟨keeps.iff1, keeps.iff2, keeps.im, keeps.page, fun hb n => ?_⟩
    rw [keeps.refresh n, State.advanceR_cpuB_r, fetches_eq_of_encode i hb]

/-- Settles O11: every instruction but the two keeps both bits, whichever CPU it belongs to. -/
theorem flagBitsFiveAndThreeAreStorage : Obligations.FlagBitsFiveAndThreeAreStorage := by
  intro i s t ht pop ex
  obtain ⟨_, keeps⟩ | ⟨_, keeps⟩ := (exec_runs i).keepsB ht <;> exact keeps.storage pop ex

/-- Settles O12. An instruction that does not use the two flags carries any values of them along, the session's own among
them, so it writes neither; the five others besides PHP are run as they are. -/
theorem decimalAndInterruptFlagsAreInert : Obligations.DecimalAndInterruptFlagsAreInert := by
  intro i s t d k php ht
  by_cases uses : UsesDI i
  · simp only [UsesDI, List.mem_cons, List.not_mem_nil, or_false] at uses
    obtain rfl | rfl | rfl | rfl | rfl | rfl := uses
    case inl => exact absurd rfl php
    all_goals cases ht
    -- PLP writes both flags, CLD and SED the first, CLI and SEI the second
    · exact ⟨fun _ _ n => absurd rfl n, fun _ _ n => absurd rfl n, _, rfl, rfl⟩
    · exact ⟨fun _ n _ => absurd rfl n, fun _ _ _ => rfl, _, rfl, rfl⟩
    · exact ⟨fun n _ _ => absurd rfl n, fun _ _ _ => rfl, _, rfl, rfl⟩
    · exact ⟨fun _ _ _ => rfl, fun _ n _ => absurd rfl n, _, rfl, rfl⟩
    · exact ⟨fun _ _ _ => rfl, fun n _ _ => absurd rfl n, _, rfl, rfl⟩
  · have carries := (exec_runs i).setDI uses ht
    have own : t = t.setDI s.cpuA.p.d s.cpuA.p.i := by
      have again : exec i s = .next (t.setDI s.cpuA.p.d s.cpuA.p.i) := carries _ _
      injection ht.symm.trans again
    exact ⟨fun _ _ _ => congrArg (·.cpuA.p.d) own, fun _ _ _ => congrArg (·.cpuA.p.i) own, _, carries d k, rfl⟩

/-- Settles O7: memory is empty and `SHADOW` is created with `CHIP_SIZE` bytes. -/
theorem resetMeetsTheInvariant : Obligations.ResetMeetsTheInvariant :=
  ⟨State.reset_wf, List.length_replicate⟩

end Sys2Proof.Proofs
end

section
/-! PROOF. Memory and the register file of a memory-mapped chip (20_memory.md R71 to R75, 50_sound_chip_decoders.md R530,
R531): what one `write` and `loadBlock` do, and that an instruction does to them what its listed writes do, one after
another, and nothing else. -/

namespace Sys2Proof.Machine

/-! ### One byte -/

theorem State.read_store (s : State) (a b : Word) (v : Byte) :
    (s.store a v).read b = if b = a then v else s.read b := by
  split
  · next h => rw [h, State.read, State.store_mem, Memory.get_set_self]
  · next h => exact Memory.get_set_other _ _ _ _ (fun e => h (BitVec.eq_of_toNat_eq e))

theorem State.write_read (s : State) (a b : Word) (v : Byte) :
    (s.write a v).read b = if b = a then v else s.read b := by
  rw [State.write, State.read_congr (State.forward_mem _ a v), State.read_store]

/-- The chip range of R530, counted from its start. -/
theorem State.chipIndex_eq_some {s : State} {a : Word} {k : Nat} :
    s.chipIndex a = some k ↔
      s.params.chip ≠ .ay ∧ a.toNat = s.params.chipBase + k ∧ k < s.params.chipSize := by
  have range : (if s.params.chipBase ≤ a.toNat ∧ a.toNat < s.params.chipBase + s.params.chipSize then
      some (a.toNat - s.params.chipBase) else none) = some k ↔
      a.toNat = s.params.chipBase + k ∧ k < s.params.chipSize := by
    split
    · rw [Option.some_inj]; omega
    · simp only [reduceCtorEq, false_iff]; omega
  unfold State.chipIndex
  cases s.params.chip with
  | ay => simp
  | nesApu | sid | pokey => simpa using range

/-- What `write` does to `SHADOW` is what the forwarding does to it. -/
theorem State.write_shadow (s : State) (a : Word) (v : Byte) :
    (s.write a v).shadow = (s.chipIndex a).elim s.shadow (fun k => s.shadow.set k v) := by
  have same : (s.store a v).chipIndex a = s.chipIndex a := rfl
  unfold State.write State.forward
  rw [same]
  cases s.chipIndex a <;> rfl

theorem State.write_shadow_getElem? (s : State) (a : Word) (v : Byte) (k : Nat) :
    (s.write a v).shadow[k]? =
      if s.chipIndex a = some k then s.shadow[k]?.map (fun _ => v) else s.shadow[k]? := by
  rw [State.write_shadow]
  cases s.chipIndex a with
  | none => rfl
  | some j =>
    by_cases h : j = k
    · rw [Option.elim_some, h, List.getElem?_set_self', if_pos rfl]; rfl
    · rw [Option.elim_some, List.getElem?_set_ne h, if_neg (fun e => h (Option.some.inj e))]

/-- `write` changes nothing but memory and `SHADOW`. -/
theorem State.write_frame (s : State) (a : Word) (v : Byte) :
    s.write a v = { s with mem := (s.write a v).mem, shadow := (s.write a v).shadow } := by
  unfold State.write State.forward
  cases (s.store a v).chipIndex a <;> rfl

/-! ### `loadBlock` -/

/-- A block of which `k` bytes have been stored: the next ones go to `a + k` and up. -/
theorem State.loadBlock_read (b a : Word) (bytes : List Byte) : ∀ (s : State) (k : Nat),
    (s.loadBlock (a + BitVec.ofNat 16 k) bytes).read b =
      (bytes.zipIdx k).foldl (fun acc e => if a + BitVec.ofNat 16 e.2 = b then e.1 else acc) (s.read b) := by
  induction bytes with
  | nil => exact fun _ _ => rfl
  | cons v vs ih =>
    intro s k
    have next : a + BitVec.ofNat 16 k + 1 = a + BitVec.ofNat 16 (k + 1) := by
      rw [BitVec.ofNat_add, BitVec.add_assoc]; rfl
    rw [State.loadBlock, next, ih, State.read_store, List.zipIdx_cons, List.foldl_cons]
    simp only [eq_comm (a := b)]

/-- `loadBlock` changes nothing but memory: it calls no intercept. -/
theorem State.loadBlock_frame (bytes : List Byte) : ∀ (s : State) (a : Word),
    s.loadBlock a bytes = { s with mem := (s.loadBlock a bytes).mem } := by
  induction bytes with
  | nil => exact fun _ _ => rfl
  | cons v vs ih => exact fun s a => ih (s.store a v) (a + 1)

/-! ### What the writes of an instruction can see -/

/-- `t` agrees with `s` in what the calls of `write` work on: memory and, unless the chip is the AY, `SHADOW`. The AY's
register file is out of it because the ports write there (R534). -/
structure State.SameBus (s t : State) : Prop where
  params : t.params = s.params
  mem : t.mem = s.mem
  shadow : s.params.chip ≠ .ay → t.shadow = s.shadow

namespace State.SameBus

variable {s t : State}

theorem unchanged (s : State) : SameBus s s := ⟨rfl, rfl, fun _ => rfl⟩

theorem trans {u : State} (h : SameBus s t) (h' : SameBus t u) : SameBus s u where
  params := h'.params.trans h.params
  mem := h'.mem.trans h.mem
  shadow n := (h'.shadow (by rwa [h.params])).trans (h.shadow n)

/-- An update of registers. -/
theorem regs {u : State} (h : SameBus s t) (hp : u.params = t.params := by rfl) (hm : u.mem = t.mem := by rfl)
    (hs : u.shadow = t.shadow := by rfl) : SameBus s u :=
  h.trans ⟨hp, hm, fun _ => hs⟩

theorem write (h : SameBus s t) (a : Word) (v : Byte) : SameBus (s.write a v) (t.write a v) where
  params := by simp [h.params]
  mem := by simp [h.mem]
  shadow n := by
    have same : t.chipIndex a = s.chipIndex a := by unfold chipIndex; rw [h.params]
    rw [write_shadow, write_shadow, same, h.shadow (by simpa using n)]

theorem writeAll (ws : List (Word × Byte)) : ∀ {s t : State}, SameBus s t → SameBus (s.writeAll ws) (t.writeAll ws) := by
  induction ws with
  | nil => exact id
  | cons w ws ih => exact fun h => ih (h.write w.1 w.2)

/-- A port write reaches no register file but the AY's (R84, R534). -/
theorem ioWrite (h : SameBus s t) (p : Word) (v : Byte) : SameBus s (t.ioWrite p v) := by
  refine h.trans ⟨ioWrite_params t p v, ioWrite_mem t p v, fun n => ?_⟩
  cases chip : t.params.chip with
  | ay => exact absurd chip n
  | nesApu | sid | pokey => rw [State.ioWrite, chip]

theorem setReg (h : SameBus s t) {r : Reg8} {v : Byte} : SameBus s (t.setReg r v) := by cases r <;> exact h.regs

theorem setPair (h : SameBus s t) {p : Pair} {w : Word} : SameBus s (t.setPair p w) := by cases p <;> exact h.regs

theorem setStackPair (h : SameBus s t) {q : StackPair} {w : Word} : SameBus s (t.setStackPair q w) := by
  cases q <;> exact h.regs

theorem setIndex (h : SameBus s t) {i : Index} {w : Word} : SameBus s (t.setIndex i w) := by cases i <;> exact h.regs

theorem setLoc8 {v : Loc8} {r : Byte} : SameBus (s.writeAll (locWrites s v r)) (s.setLoc8 v r) := by
  cases v with
  | reg q => exact (unchanged s).setReg
  | hl | idx i d => exact unchanged _

theorem setTarget {q : ATarget} {r : Byte} : SameBus (s.writeAll (targetWrites s q r)) (s.setTarget q r) := by
  cases q with
  | acc => exact (unchanged s).regs
  | mem m => exact unchanged _

theorem setMain (h : SameBus s t) {m : Bank} : SameBus s (t.setMain m) :=
  h.regs (t.setMain_params m) (t.setMain_mem m) (t.setMain_shadow m)

/-- One transfer is its write; `HL`, `DE`, `BC` and `F` follow. -/
theorem blockMove {step : Word} : SameBus (s.write s.de (s.read s.hl)) (s.blockMove step) :=
  (unchanged _).setMain.setMain.setMain.setMain

/-- One block input is its write; `HL`, `B` and `F` follow. -/
theorem blockIn {step : Word} : SameBus (s.write s.hl (ioRead s.params s.bc)) (s.blockIn step) :=
  (unchanged _).setMain.setReg.setMain

/-- One block output writes to a port only. -/
theorem blockOut {step : Word} : SameBus s (s.blockOut step) := ((unchanged s).ioWrite _ _).setMain.setReg.setMain

/-- One comparison writes nowhere. -/
theorem blockCompare {step : Word} : SameBus s (s.blockCompare step) := (unchanged s).setMain.setMain.setMain

/-- CPU-A's push of a word moves `S` between its two writes. -/
theorem push16A {w : Word} :
    SameBus ((s.write (stackAddrA s.cpuA.s) (hiByte w)).write (stackAddrA (s.cpuA.s - 1)) (loByte w)) (s.push16A w) :=
  (write (t := s.push8A (hiByte w)) (unchanged _).regs _ _).regs

end State.SameBus

/-! ### Instructions -/

/-- The advance of `R` that comes first on CPU-B has no effect on what is written, or where. -/
theorem memoryWrites_advanceR (s : State) (n : Nat) (i : Instr) :
    memoryWrites (s.advanceR n) i = memoryWrites s i := by
  cases i <;> rfl

/-- Instruction `i`, run as `e`, does to memory and to a memory-mapped chip's `SHADOW` what its calls of `write` do. -/
def Writes (i : Instr) (e : State → Result) : Prop :=
  ∀ s t, e s = .next t → (s.writeAll (memoryWrites s i)).SameBus t

namespace Writes

open State (SameBus)

/-- A body of CPU-B sees the state after the advance of `R`. -/
theorem body_after_advanceR {i : Instr} {u : State} (s : State) (n : Nat)
    (h : ((s.advanceR n).writeAll (memoryWrites (s.advanceR n) i)).SameBus u) :
    (s.writeAll (memoryWrites s i)).SameBus u := by
  rw [memoryWrites_advanceR] at h
  exact (SameBus.writeAll _ (SameBus.unchanged s).regs).trans h

section
variable {i : Instr} {f : State → State} {w : State → Word} {v again : State → Bool}
  (hf : ∀ s : State, (s.writeAll (memoryWrites s i)).SameBus (f s))
include hf

theorem jumpA : Writes i (fun s => Machine.jumpA i (v s) f (w s) s) := by
  intro s t ht
  rw [jumpA_next ht]
  exact (hf s).regs

theorem passA : Writes i (runA i f) := jumpA (v := fun _ => false) hf

theorem jumpB : Writes i (fun s => Machine.jumpB i (v s) f (w s) s) := by
  intro s t ht
  rw [jumpB_next ht]
  exact (body_after_advanceR s i.fetches (hf _)).regs

theorem passB : Writes i (runB i f) := jumpB (v := fun _ => false) hf

theorem repeating : Writes i (repeatB i f again) := by
  intro s t ht
  have body := body_after_advanceR s i.fetches (hf _)
  obtain ⟨_, rfl⟩ | ⟨_, rfl⟩ := repeatB_next ht <;> exact body.regs

end

/-- A conditional call or return: where the condition does not hold it passes by. -/
theorem conditional {i : Instr} {f : State → State} {c : State → Bool} {w : State → Word}
    (same : ∀ s n, c (s.advanceR n) = c s)
    (hf : ∀ s : State, (s.writeAll (memoryWrites s i)).SameBus (if c s then f s else s)) :
    Writes i (fun s => if c s then Machine.jumpB i true f (w s) s else runB i id s) := by
  intro s t ht
  have body := body_after_advanceR s i.fetches (hf _)
  rw [same] at body
  beta_reduce at ht
  split at ht
  · next h => rw [if_pos h] at body; rw [jumpB_next ht]; exact body.regs
  · next h => rw [if_neg h] at body; rw [runB_next ht]; exact body.regs

end Writes

open State.SameBus in
/-- What the body of every instruction leaves is what its listed writes leave, registers aside: the split is that of the
instruction rules by the writes they make. -/
theorem exec_writes (i : Instr) : Writes i (exec i) := by
  unfold exec
  cases i with
  -- CPU-A, with its writes
  | aSta | aStx | aSty | aPha | aPhp | aInc | aDec => exact .passA fun s => (unchanged _).regs
  | aAsl | aLsr | aRol | aRor => exact .passA fun s => setTarget.regs
  | aJsr => exact .jumpA fun s => push16A
  -- CPU-A, registers only
  | aLda | aLdx | aLdy | aTax | aTay | aTxa | aTya | aTsx | aTxs | aPla | aPlp | aAdc | aSbc | aAnd | aOra | aEor
  | aCmp | aCpx | aCpy | aBit | aInx | aIny | aDex | aDey | aClc | aSec | aCli | aSei | aClv | aCld | aSed
  | aNop | aNop1 | aNop2 | aUnk | aBrk | aRti => exact .passA fun s => (unchanged s).regs
  | aBpl | aBmi | aBvc | aBvs | aBcc | aBcs | aBne | aBeq | aJmp | aJmpInd | aRts =>
    exact .jumpA fun s => (unchanged s).regs
  -- CPU-B, with its writes
  | bLdHlR | bLdXyR | bLdHlN | bLdXyN | bLdBcA | bLdDeA | bLdMemA | bLdMemHl | bLdMemDd | bLdMemXy | bPush | bPushXy
  | bExSpHl | bRld | bRrd => exact .passB fun s => (unchanged _).regs
  | bExSpXy => exact .passB fun s => setIndex (unchanged _)
  | bLdi | bLdd => exact .passB fun s => blockMove
  | bLdir | bLddr => exact .repeating fun s => blockMove
  | bIni | bInd => exact .passB fun s => blockIn
  | bInir | bIndr => exact .repeating fun s => blockIn
  | bInc | bDec | bRlc | bRrc | bRl | bRr | bSla | bSra | bSrl | bSet | bRes => exact .passB fun s => setLoc8.regs
  | bCall | bRst => exact .jumpB fun s => (unchanged _).regs
  | bCallCc cc =>
    refine .conditional (fun _ _ => State.cond_congr rfl cc) fun s => ?_
    simp only [memoryWrites]
    split
    · exact (unchanged _).regs
    · exact unchanged s
  -- CPU-B, ports
  | bOutNA | bOutCR => exact .passB fun s => (unchanged s).ioWrite _ _
  | bOuti | bOutd => exact .passB fun s => blockOut
  | bOtir | bOtdr => exact .repeating fun s => blockOut
  -- CPU-B, registers only
  | bLdRR | bLdRN | bLdRHl | bLdRXy => exact .passB fun s => (unchanged s).setReg
  | bInRC => exact .passB fun s => (unchanged s).setReg.regs
  | bLdDdNn | bLdDdMem | bIncSs | bDecSs => exact .passB fun s => (unchanged s).setPair
  | bLdXyNn | bLdXyMem | bIncXy | bDecXy => exact .passB fun s => (unchanged s).setIndex
  | bAddXy => exact .passB fun s => (unchanged s).setIndex.regs
  | bPop => exact .passB fun s => (unchanged s).regs.setStackPair
  | bPopXy => exact .passB fun s => (unchanged s).regs.setIndex
  | bLdABc | bLdADe | bLdAMem | bLdAI | bLdARefresh | bLdIA | bLdRefreshA | bLdHlMem | bLdSpHl | bLdSpXy | bExDeHl
  | bExAf | bExx | bAdd | bAdc | bSub | bSbc | bAnd | bXor | bOr | bCp | bDaa | bCpl | bNeg | bCcf | bScf
  | bAddHl | bAdcHl | bSbcHl | bRlca | bRla | bRrca | bRra | bBit | bInAN | bNop | bDi | bEi | bIm
  | bUnkCb | bUnkEd | bUnkXy | bUnkXycb => exact .passB fun s => (unchanged s).regs
  | bCpi | bCpd => exact .passB fun s => blockCompare
  | bCpir | bCpdr => exact .repeating fun s => blockCompare
  | bJp | bJpCc | bJr | bJrCc | bJpHl | bJpXy | bRet | bReti | bRetn | bHalt => exact .jumpB fun s => (unchanged s).regs
  | bDjnz => exact .jumpB (f := fun s => s.setReg .b (s.reg .b - 1)) fun s => (unchanged s).regs
  | bRetCc cc =>
    refine .conditional (fun _ _ => State.cond_congr rfl cc) fun s => ?_
    split
    · exact (unchanged s).regs
    · exact unchanged s

/-- Calls of `write` leave every byte they do not address. -/
theorem State.writeAll_read_other (a : Word) (ws : List (Word × Byte)) : ∀ s : State, (∀ w ∈ ws, w.1 ≠ a) →
    (s.writeAll ws).read a = s.read a := by
  induction ws with
  | nil => exact fun _ _ => rfl
  | cons w ws ih =>
    intro s h
    obtain ⟨first, rest⟩ := List.forall_mem_cons.mp h
    exact (ih _ rest).trans (State.read_write_other s w.1 a w.2 first.symm)

theorem State.writeAll_params (ws : List (Word × Byte)) : ∀ s : State, (s.writeAll ws).params = s.params := by
  induction ws with
  | nil => exact fun _ => rfl
  | cons w ws ih => exact fun s => (ih _).trans (State.write_params s w.1 w.2)

end Sys2Proof.Machine

namespace Sys2Proof.Proofs

open Sys2Proof.Machine

/-- Settles O14: the instruction leaves memory and a memory-mapped chip's `SHADOW` as its listed writes leave them, and
those write at their own addresses only. -/
theorem memoryChangesOnlyByTheWrites : Obligations.MemoryChangesOnlyByTheWrites := by
  intro i s t ht
  have bus : (s.writeAll (memoryWrites s i)).SameBus t := exec_writes i s t ht
  refine ⟨bus.mem, fun a others => ?_, fun chip => bus.shadow (by rwa [State.writeAll_params])⟩
  exact (State.read_congr bus.mem a).trans (State.writeAll_read_other a _ s others)

/-- Settles O16: the block is stored byte by byte, and each store is a store alone. -/
theorem loadBlockWrapsAndFiresNoIntercept : Obligations.LoadBlockWrapsAndFiresNoIntercept := by
  intro s a b bytes
  refine ⟨?_, State.loadBlock_frame bytes s a⟩
  simpa using State.loadBlock_read b a bytes s 0

/-- Settles O15: memory by the store, `SHADOW` by the forwarding, whose range is that of `chipIndex`. -/
theorem writeStoresAndForwards : Obligations.WriteStoresAndForwards := by
  intro s a b v k
  refine ⟨State.write_read s a b v, ?_, State.write_frame s a v⟩
  rw [State.write_shadow_getElem?]
  simp only [State.chipIndex_eq_some]

end Sys2Proof.Proofs
end

section
/-! PROOF. The opcode map of CPU-A read in both directions (30_encoding.md R103, R119): the cells at the opcodes that the
encoder writes, and the bytes that the instruction in each cell is encoded in. -/

namespace Sys2Proof

/-- The bytes decode to `i` on the CPU, whatever bytes follow. -/
def DecodesTo (cpu : CpuKind) (bs : List Byte) (i : Instr) : Prop :=
  match bs with
  | [b0] => ∀ b1 b2 b3, decode cpu b0 b1 b2 b3 = i
  | [b0, b1] => ∀ b2 b3, decode cpu b0 b1 b2 b3 = i
  | [b0, b1, b2] => ∀ b3, decode cpu b0 b1 b2 b3 = i
  | [b0, b1, b2, b3] => decode cpu b0 b1 b2 b3 = i
  | _ => False

theorem DecodesTo.append {cpu : CpuKind} {bs : List Byte} {i : Instr} (h : DecodesTo cpu bs i) (rest : List Byte) :
    decode cpu ((bs ++ rest).getD 0 0) ((bs ++ rest).getD 1 0) ((bs ++ rest).getD 2 0) ((bs ++ rest).getD 3 0) = i := by
  unfold DecodesTo at h
  split at h
  · exact h _ _ _
  · exact h _ _
  · exact h _
  · exact h
  · exact h.elim

/-- `i` is an instruction of the CPU whose encoding is the first `len` bytes of `bs` (R102, R103, R124). -/
def EncodedAt (cpu : CpuKind) (bs : List Byte) (i : Instr) : Prop :=
  WellFormed i = true ∧ i.cpu = cpu ∧ encode i = bs.take i.length

/-- The first `n` bytes of a list, three of them read as an opcode and a 16-bit operand (R79): the form in which the
encoder writes them. -/
def takeWord : List Byte → Nat → List Byte
  | op :: l :: h :: _, 3 => encodeWord op (word h l)
  | bs, n => bs.take n

theorem takeWord_eq_take (bs : List Byte) (n : Nat) : takeWord bs n = bs.take n := by
  unfold takeWord
  split
  · simp [encodeWord]
  · rfl

/-- An encoding that ends in an opcode and at most a 16-bit operand. -/
theorem EncodedAt.of_takeWord {cpu : CpuKind} {bs : List Byte} {i : Instr}
    (h : WellFormed i = true ∧ i.cpu = cpu ∧ encode i = takeWord bs i.length) : EncodedAt cpu bs i := by
  rwa [takeWord_eq_take] at h

/-- The same behind a first byte that selects a map (R124), with `n` bytes after it. -/
theorem EncodedAt.of_cons {cpu : CpuKind} {p : Byte} {bs : List Byte} {i : Instr} (n : Nat)
    (h : WellFormed i = true ∧ i.cpu = cpu ∧ i.length = n + 1 ∧ encode i = p :: takeWord bs n) :
    EncodedAt cpu (p :: bs) i := by
  obtain ⟨wf, hcpu, len, enc⟩ := h
  refine ⟨wf, hcpu, ?_⟩
  rw [enc, len, takeWord_eq_take, List.take_succ_cons]

/-- The cell of R119 that an opcode selects. -/
def cellA (op : Byte) : ACell := (mapA.getD (field op 4 4) []).getD (field op 0 4) (Enc.unk op)

/-- A byte by its two nibbles: the row and the column of R119. -/
def nibbles (h l : Fin 16) : Byte := BitVec.ofNat 8 (16 * h + l)

theorem exists_nibbles (b : Byte) : ∃ h l, b = nibbles h l := by
  have lt : b.toNat < 256 := b.isLt
  refine ⟨⟨b.toNat / 16, by omega⟩, ⟨b.toNat % 16, by omega⟩, ?_⟩
  rw [nibbles, Nat.div_add_mod, BitVec.ofNat_toNat, BitVec.setWidth_eq]

/-! ### From an opcode to the bytes of its instruction -/

/-- The map of R119, cell by cell: the instruction in it is encoded with the cell's own opcode. -/
theorem cellA_nibbles_encodedAt (h l : Fin 16) (b1 b2 b3 : Byte) :
    EncodedAt .a [nibbles h l, b1, b2, b3] (cellA (nibbles h l) b1 b2) := by
  apply EncodedAt.of_takeWord
  fin_cases h <;> fin_cases l <;> exact ⟨rfl, rfl, rfl⟩

theorem decodeA_encodedAt (b0 b1 b2 b3 : Byte) : EncodedAt .a [b0, b1, b2, b3] (decodeA b0 b1 b2) := by
  obtain ⟨h, l, rfl⟩ := exists_nibbles b0
  exact cellA_nibbles_encodedAt h l b1 b2 b3

/-! ### From an instruction to the cell of its opcode -/

/-- What R119 holds for one mode of an instruction: the mode's cell at the opcode given for it, and where none is given
the mode is outside the instruction's set. -/
def ModeCell {α : Type} (allowed : α → Bool) (cell : ACell) : Option Byte → Prop
  | some op => cellA op = cell
  | none => ∀ x, allowed x = false

section

variable {f : AddrMode → Instr} {allowed : AddrMode → Bool} {op : Option Byte}

theorem ModeCell.decode_byte {mode : Byte → AddrMode} {z : Byte}
    (cell : ModeCell (fun z => allowed (mode z)) (fun b1 _ => f (mode b1)) op) (ok : allowed (mode z) = true) :
    DecodesTo .a ((op.map fun o => [o, z]).getD []) (f (mode z)) := by
  cases op with
  | some o => exact fun _ _ => congrFun₂ cell z _
  | none => exact absurd ok (by simp [cell z])

theorem ModeCell.decode_word {mode : Word → AddrMode} {nn : Word}
    (cell : ModeCell (fun nn => allowed (mode nn)) (fun b1 b2 => f (mode (word b2 b1))) op)
    (ok : allowed (mode nn) = true) :
    DecodesTo .a ((op.map fun o => [o, loByte nn, hiByte nn]).getD []) (f (mode nn)) := by
  cases op with
  | some o =>
    intro _
    calc cellA o (loByte nn) (hiByte nn)
      _ = f (mode (word (hiByte nn) (loByte nn))) := congrFun₂ cell _ _
      _ = f (mode nn) := by rw [word_hi_lo]
  | none => exact absurd ok (by simp [cell nn])

end

/-- The opcodes of an instruction's *Encoding* line stand at the cells of its modes, and its set has no other modes. -/
structure ModeCells (f : AddrMode → Instr) (allowed : AddrMode → Bool)
    (zp zpx zpy abs absx absy indx indy : Option Byte) : Prop where
  zp : ModeCell (fun z => allowed (.zp z)) (Enc.zp f) zp
  zpx : ModeCell (fun z => allowed (.zpx z)) (Enc.zpx f) zpx
  zpy : ModeCell (fun z => allowed (.zpy z)) (Enc.zpy f) zpy
  abs : ModeCell (fun nn => allowed (.abs nn)) (Enc.abs f) abs
  absx : ModeCell (fun nn => allowed (.absx nn)) (Enc.absx f) absx
  absy : ModeCell (fun nn => allowed (.absy nn)) (Enc.absy f) absy
  indx : ModeCell (fun z => allowed (.indx z)) (Enc.indx f) indx
  indy : ModeCell (fun z => allowed (.indy z)) (Enc.indy f) indy

section

variable {allowed : AddrMode → Bool} {zp zpx zpy abs absx absy indx indy : Option Byte}

theorem ModeCells.decode {f : AddrMode → Instr} (cells : ModeCells f allowed zp zpx zpy abs absx absy indx indy)
    {m : AddrMode} (ok : allowed m = true) :
    DecodesTo .a (encodeMode zp zpx zpy abs absx absy indx indy m) (f m) := by
  cases m with
  | zp => exact cells.zp.decode_byte ok
  | zpx => exact cells.zpx.decode_byte ok
  | zpy => exact cells.zpy.decode_byte ok
  | abs => exact cells.abs.decode_word ok
  | absx => exact cells.absx.decode_word ok
  | absy => exact cells.absy.decode_word ok
  | indx => exact cells.indx.decode_byte ok
  | indy => exact cells.indy.decode_byte ok

theorem ModeCells.decode_operand {f : AOperand → Instr} {imm : Byte} (cell : cellA imm = Enc.imm f)
    (cells : ModeCells (Enc.opd f) allowed zp zpx zpy abs absx absy indx indy) {m : AOperand}
    (ok : m.allowed allowed = true) :
    DecodesTo .a (encodeOperand imm (encodeMode zp zpx zpy abs absx absy indx indy) m) (f m) := by
  cases m with
  | imm n => exact fun _ _ => congrFun₂ cell n _
  | mem m => exact cells.decode ok

end

theorem ModeCells.decode_shift {f : ATarget → Instr} {acc zp zpx abs absx : Byte} (cell : cellA acc = Enc.one (f .acc))
    (cells : ModeCells (Enc.shf f) AddrMode.inRmw (some zp) (some zpx) none (some abs) (some absx) none none none)
    {t : ATarget} (ok : t.allowed = true) :
    DecodesTo .a (encodeShift acc zp zpx abs absx t) (f t) := by
  cases t with
  | acc => exact fun _ _ _ => congrFun₂ cell _ _
  | mem m => exact cells.decode ok

/-- The cells at the opcodes of a list, the list compared with the map in one evaluation (R120, R121). -/
theorem decodeA_of_contains {ops : List Byte} {cell : Byte → ACell} (table : ops.map cellA = ops.map cell) {op : Byte}
    (h : ops.contains op = true) (b1 b2 : Byte) : decodeA op b1 b2 = cell op b1 b2 :=
  congrFun₂ (List.map_inj_left.mp table op (List.contains_iff_mem.mp h)) b1 b2

/-- R119, read from the instruction: the decoder finds it behind its encoding. -/
theorem decode_encode_cpuA {i : Instr} (ha : i.cpu = .a) (wf : WellFormed i = true) : DecodesTo .a (encode i) i := by
  cases i with
  -- in a list of eight modes `rfl` is the cell at the mode's opcode, `fun _ => rfl` a mode outside the set
  | aLda | aAdc | aSbc | aAnd | aOra | aEor | aCmp =>
    refine ModeCells.decode_operand ?_ ?_ wf
    · rfl
    · exact ⟨rfl, rfl, fun _ => rfl, rfl, rfl, rfl, rfl, rfl⟩
  | aLdx =>
    refine ModeCells.decode_operand ?_ ?_ wf
    · rfl
    · exact ⟨rfl, fun _ => rfl, rfl, rfl, fun _ => rfl, rfl, fun _ => rfl, fun _ => rfl⟩
  | aLdy =>
    refine ModeCells.decode_operand ?_ ?_ wf
    · rfl
    · exact ⟨rfl, rfl, fun _ => rfl, rfl, rfl, fun _ => rfl, fun _ => rfl, fun _ => rfl⟩
  | aCpx | aCpy =>
    refine ModeCells.decode_operand ?_ ?_ wf
    · rfl
    · exact ⟨rfl, fun _ => rfl, fun _ => rfl, rfl, fun _ => rfl, fun _ => rfl, fun _ => rfl, fun _ => rfl⟩
  | aSta =>
    refine ModeCells.decode (allowed := AddrMode.inAlu8) ?_ wf
    exact ⟨rfl, rfl, fun _ => rfl, rfl, rfl, rfl, rfl, rfl⟩
  | aStx =>
    refine ModeCells.decode (allowed := AddrMode.inStx) ?_ wf
    exact ⟨rfl, fun _ => rfl, rfl, rfl, fun _ => rfl, fun _ => rfl, fun _ => rfl, fun _ => rfl⟩
  | aSty =>
    refine ModeCells.decode (allowed := AddrMode.inSty) ?_ wf
    exact ⟨rfl, rfl, fun _ => rfl, rfl, fun _ => rfl, fun _ => rfl, fun _ => rfl, fun _ => rfl⟩
  | aBit =>
    refine ModeCells.decode (allowed := AddrMode.inZpAbs) ?_ wf
    exact ⟨rfl, fun _ => rfl, fun _ => rfl, rfl, fun _ => rfl, fun _ => rfl, fun _ => rfl, fun _ => rfl⟩
  | aInc | aDec =>
    refine ModeCells.decode (allowed := AddrMode.inRmw) ?_ wf
    exact ⟨rfl, rfl, fun _ => rfl, rfl, rfl, fun _ => rfl, fun _ => rfl, fun _ => rfl⟩
  | aAsl | aLsr | aRol | aRor =>
    refine ModeCells.decode_shift ?_ ?_ wf
    · rfl
    · exact ⟨rfl, rfl, fun _ => rfl, rfl, rfl, fun _ => rfl, fun _ => rfl, fun _ => rfl⟩
  | aJmp nn => exact fun _ => congrArg Instr.aJmp (word_hi_lo nn)
  | aJmpInd nn => exact fun _ => congrArg Instr.aJmpInd (word_hi_lo nn)
  | aJsr nn => exact fun _ => congrArg Instr.aJsr (word_hi_lo nn)
  | aNop1 => exact fun b1 b2 _ => decodeA_of_contains (cell := Enc.nop1) rfl wf b1 b2
  | aNop2 => exact fun b2 _ => decodeA_of_contains (cell := Enc.nop2) rfl wf _ b2
  | aUnk => exact fun b1 b2 _ => decodeA_of_contains (cell := Enc.unk) rfl wf b1 b2
  | aBpl | aBmi | aBvc | aBvs | aBcc | aBcs | aBne | aBeq => exact fun _ _ => rfl
  | aTax | aTay | aTxa | aTya | aTsx | aTxs | aPha | aPhp | aPla | aPlp | aInx | aIny | aDex | aDey
  | aRts | aClc | aSec | aCli | aSei | aClv | aCld | aSed | aNop | aBrk | aRti => exact fun _ _ _ => rfl
  | _ => cases ha

end Sys2Proof
end

section
/-! PROOF. The opcode maps of CPU-B read in both directions (30_encoding.md R124 to R133). A byte is written `oct x y z` for
its bits `xx yyy zzz`. The accumulator operations and the CB family are laws about these fields, which serve the plain
and the indexed forms alike; the irregular maps are read cell by cell. -/

namespace Sys2Proof

/-- The byte with bits `xx yyy zzz` (R128, R129). -/
def oct (x : Fin 4) (y z : Fin 8) : Byte := BitVec.ofNat 8 (64 * x + 8 * y + z)

theorem exists_oct (b : Byte) : ∃ x y z, b = oct x y z := by
  have lt : b.toNat < 256 := b.isLt
  refine ⟨⟨b.toNat / 64, by omega⟩, ⟨b.toNat / 8 % 8, by omega⟩, ⟨b.toNat % 8, by omega⟩, ?_⟩
  apply BitVec.eq_of_toNat_eq
  simp only [oct, BitVec.toNat_ofNat]
  omega

theorem field_eq_div_mod (v : Byte) (lo n : Nat) : field v lo n = v.toNat / 2 ^ lo % 2 ^ n := by
  rw [field, BitVec.extractLsb'_toNat, Nat.shiftRight_eq_div_pow]

section

variable (x : Fin 4) (y z : Fin 8)

theorem oct_toNat : (oct x y z).toNat = 64 * x + 8 * y + z := by
  rw [oct, BitVec.toNat_ofNat]
  omega

@[simp] theorem field_oct_x : field (oct x y z) 6 2 = x := by
  rw [field_eq_div_mod, oct_toNat]
  omega

@[simp] theorem field_oct_y : field (oct x y z) 3 3 = y := by
  rw [field_eq_div_mod, oct_toNat]
  omega

@[simp] theorem field_oct_z : field (oct x y z) 0 3 = z := by
  rw [field_eq_div_mod, oct_toNat]
  omega

@[simp] theorem code3_val : code3 y = y := by
  rw [code3, Fin.ofNat_val_eq_self]

/-! ### The quarters of the main map (R128) -/

variable (b1 b2 b3 : Byte)

theorem decodeB_oct_zero : decodeB (oct 0 y z) b1 b2 b3 = decodeMain0 y z b1 b2 := by
  simp [decodeB]

theorem decodeB_oct_one : decodeB (oct 1 y z) b1 b2 b3 = decodeMain1 y z := by
  simp [decodeB]

theorem decodeB_oct_two : decodeB (oct 2 y z) b1 b2 b3 = aluOf y (Src8.ofCode z) := by
  simp [decodeB]

theorem decodeB_oct_three : decodeB (oct 3 y z) b1 b2 b3 = decodeMain3 y z b1 b2 b3 := by
  simp [decodeB]

theorem decodeB_index (i : Index) : decodeB i.opcode b1 b2 b3 = decodeXY i b1 b2 b3 := by
  cases i <;> rfl

end

/-! ### Accumulator operations (R371) -/

theorem Reg8.exists_code (r : Reg8) : ∃ z : Fin 8, Reg8.ofCode z = some r := by
  cases r with
  | b => exact ⟨0, rfl⟩
  | c => exact ⟨1, rfl⟩
  | d => exact ⟨2, rfl⟩
  | e => exact ⟨3, rfl⟩
  | h => exact ⟨4, rfl⟩
  | l => exact ⟨5, rfl⟩
  | a => exact ⟨7, rfl⟩

/-- An ALU operand is one of the eight of a code, an immediate or an indexed byte. -/
theorem Src8.cases_code (m : Src8) : (∃ z : Fin 8, m = .ofCode z) ∨ (∃ n, m = .imm n) ∨ ∃ i d, m = .idx i d := by
  cases m with
  | reg r =>
    obtain ⟨z, hz⟩ := r.exists_code
    exact .inl ⟨z, by rw [Src8.ofCode, hz]⟩
  | hl => exact .inl ⟨6, rfl⟩
  | imm n => exact .inr (.inl ⟨n, rfl⟩)
  | idx i d => exact .inr (.inr ⟨i, d, rfl⟩)

theorem Src8.length_ofCode (z : Fin 8) : (Src8.ofCode z).length = 1 := by
  decide +revert

theorem aluOf_wellFormed (y : Fin 8) (m : Src8) :
    WellFormed (aluOf y m) = true ∧ (aluOf y m).cpu = .b ∧ (aluOf y m).length = m.length := by
  fin_cases y <;> exact ⟨rfl, rfl, rfl⟩

theorem encode_aluOf (y : Fin 8) (m : Src8) : encode (aluOf y m) = encodeAlu (oct 2 y 0) m := by
  fin_cases y <;> rfl

theorem encodeAlu_ofCode (y z : Fin 8) : encodeAlu (oct 2 y 0) (.ofCode z) = [oct 2 y z] := by
  decide +revert

theorem encodeAlu_imm (y : Fin 8) (n : Byte) : encodeAlu (oct 2 y 0) (.imm n) = [oct 3 y 6, n] := by
  have code : oct 2 y 0 ||| 0x46 = oct 3 y 6 := by decide +revert
  rw [encodeAlu, code]

theorem encodeAlu_idx (y : Fin 8) (i : Index) (d : Byte) :
    encodeAlu (oct 2 y 0) (.idx i d) = [i.opcode, oct 2 y 6, d] := by
  have code : oct 2 y 0 ||| 6 = oct 2 y 6 := by decide +revert
  rw [encodeAlu, code]

theorem decodeXY_alu (y : Fin 8) (i : Index) (d b3 : Byte) : decodeXY i (oct 2 y 6) d b3 = aluOf y (.idx i d) := by
  fin_cases y <;> rfl

/-! ### The CB family (R129, R132, R404) -/

/-- The operation of the CB family with bits `oo yyy`. The bits `00 110` belong to none (R129); `rotOf` answers SRL there,
so the laws about their bytes leave them out. -/
def cbOf (o : Fin 4) (y : Fin 8) (v : Loc8) : Instr :=
  match o with
  | 0 => rotOf y v
  | 1 => .bBit y v
  | 2 => .bRes y v
  | 3 => .bSet y v

/-- A location is one of the eight of a code or an indexed byte. -/
theorem Loc8.cases_code (v : Loc8) : (∃ z : Fin 8, v = .ofCode z) ∨ ∃ i d, v = .idx i d := by
  cases v with
  | reg r =>
    obtain ⟨z, hz⟩ := r.exists_code
    exact .inl ⟨z, by rw [Loc8.ofCode, hz]⟩
  | hl => exact .inl ⟨6, rfl⟩
  | idx i d => exact .inr ⟨i, d, rfl⟩

theorem Loc8.lengthCB_ofCode (z : Fin 8) : (Loc8.ofCode z).lengthCB = 2 := by
  decide +revert

theorem cbOf_wellFormed (o : Fin 4) (y : Fin 8) (v : Loc8) :
    WellFormed (cbOf o y v) = true ∧ (cbOf o y v).cpu = .b ∧ (cbOf o y v).length = v.lengthCB := by
  match o with
  | 0 => fin_cases y <;> exact ⟨rfl, rfl, rfl⟩
  | 1 | 2 | 3 => exact ⟨rfl, rfl, rfl⟩

theorem encode_cbOf {o : Fin 4} {y : Fin 8} (assigned : ¬ (o = 0 ∧ y = 6)) (v : Loc8) :
    encode (cbOf o y v) = encodeCB (oct o y 0) v := by
  match o with
  | 0 =>
    match y with
    | 0 | 1 | 2 | 3 | 4 | 5 | 7 => rfl
    | 6 => exact absurd ⟨rfl, rfl⟩ assigned
  | 1 | 2 | 3 => fin_cases y <;> rfl

theorem encodeCB_ofCode (o : Fin 4) (y z : Fin 8) : encodeCB (oct o y 0) (.ofCode z) = [0xCB, oct o y z] := by
  decide +revert

theorem encodeCB_idx (o : Fin 4) (y : Fin 8) (i : Index) (d : Byte) :
    encodeCB (oct o y 0) (.idx i d) = [i.opcode, 0xCB, d, oct o y 6] := by
  have code : oct o y 0 ||| 6 = oct o y 6 := by decide +revert
  rw [encodeCB, code]

theorem decodeCB_assigned {o : Fin 4} {y : Fin 8} (assigned : ¬ (o = 0 ∧ y = 6)) (z : Fin 8) :
    decodeCB (oct o y z) = cbOf o y (.ofCode z) := by
  unfold decodeCB
  simp only [field_oct_x, field_oct_y, field_oct_z, code3_val]
  match o with
  | 0 => exact if_neg fun h => assigned ⟨rfl, Fin.ext h⟩
  | 1 | 2 | 3 => rfl

theorem decodeCB_unassigned (z : Fin 8) : decodeCB (oct 0 6 z) = .bUnkCb z := by
  simp [decodeCB]

theorem xycbAssigned_oct (o : Fin 4) (y z : Fin 8) :
    xycbAssigned (oct o y z) = true ↔ z = 6 ∧ ¬ (o = 0 ∧ y = 6) := by
  decide +revert

theorem decodeXYCB_assigned {o : Fin 4} {y : Fin 8} (assigned : ¬ (o = 0 ∧ y = 6)) (i : Index) (d : Byte) :
    decodeXYCB i d (oct o y 6) = cbOf o y (.idx i d) := by
  unfold decodeXYCB
  rw [if_pos ((xycbAssigned_oct o y 6).mpr ⟨rfl, assigned⟩)]
  simp only [field_oct_x, field_oct_y, code3_val]
  match o with
  | 0 | 1 | 2 | 3 => rfl

theorem decodeXYCB_unassigned {x : Byte} (h : xycbAssigned x = false) (i : Index) (d : Byte) :
    decodeXYCB i d x = .bUnkXycb i d x := by
  rw [decodeXYCB, h, if_neg Bool.false_ne_true]

/-! ### Unassigned second bytes -/

/-- The ED map, cell by cell (R130): a byte that it does not assign is an unknown instruction. -/
theorem decodeED_unassigned {x : Byte} (h : edOpcodes.contains x = false) (l hi : Byte) :
    decodeED x l hi = .bUnkEd x := by
  -- at an assigned byte both sides are the same, so one equation serves every cell
  have cell : decodeED x l hi = bif edOpcodes.contains x then decodeED x l hi else .bUnkEd x := by
    obtain ⟨r, c, rfl⟩ := exists_nibbles x
    fin_cases r <;> fin_cases c <;> rfl
  rw [cell, h, cond_false]

theorem decodeXY_lone {b1 : Byte} (h : xyOpcodes.contains b1 = false) (i : Index) (b2 b3 : Byte) :
    decodeXY i b1 b2 b3 = .bUnkXy i := by
  rw [decodeXY, h, if_neg Bool.false_ne_true]

/-! ### From the bytes to the instruction and back -/

section

variable (b1 b2 b3 : Byte)

theorem aluOf_encodedAt (y z : Fin 8) : EncodedAt .b [oct 2 y z, b1, b2, b3] (aluOf y (.ofCode z)) := by
  obtain ⟨wf, hcpu, len⟩ := aluOf_wellFormed y (.ofCode z)
  refine ⟨wf, hcpu, ?_⟩
  rw [encode_aluOf, len, encodeAlu_ofCode, Src8.length_ofCode]
  rfl

theorem aluOf_imm_encodedAt (y : Fin 8) : EncodedAt .b [oct 3 y 6, b1, b2, b3] (aluOf y (.imm b1)) := by
  obtain ⟨wf, hcpu, len⟩ := aluOf_wellFormed y (.imm b1)
  refine ⟨wf, hcpu, ?_⟩
  rw [encode_aluOf, len, encodeAlu_imm]
  rfl

theorem decodeMain0_encodedAt (y z : Fin 8) : EncodedAt .b [oct 0 y z, b1, b2, b3] (decodeMain0 y z b1 b2) := by
  apply EncodedAt.of_takeWord
  fin_cases z <;> fin_cases y <;> exact ⟨rfl, rfl, rfl⟩

theorem decodeMain1_encodedAt (y z : Fin 8) : EncodedAt .b [oct 1 y z, b1, b2, b3] (decodeMain1 y z) := by
  fin_cases z <;> fin_cases y <;> exact ⟨rfl, rfl, rfl⟩

theorem decodeCB_encodedAt : EncodedAt .b [0xCB, b1, b2, b3] (decodeCB b1) := by
  obtain ⟨o, y, z, rfl⟩ := exists_oct b1
  by_cases assigned : o = 0 ∧ y = 6
  · obtain ⟨rfl, rfl⟩ := assigned
    rw [decodeCB_unassigned]
    fin_cases z <;> exact ⟨rfl, rfl, rfl⟩
  · obtain ⟨wf, hcpu, len⟩ := cbOf_wellFormed o y (.ofCode z)
    rw [decodeCB_assigned assigned]
    refine ⟨wf, hcpu, ?_⟩
    rw [encode_cbOf assigned, len, encodeCB_ofCode, Loc8.lengthCB_ofCode]
    rfl

theorem decodeXYCB_encodedAt (i : Index) (d x : Byte) : EncodedAt .b [i.opcode, 0xCB, d, x] (decodeXYCB i d x) := by
  cases h : xycbAssigned x with
  | false =>
    rw [decodeXYCB_unassigned h]
    exact ⟨by rw [WellFormed, h, Bool.not_false], rfl, rfl⟩
  | true =>
    obtain ⟨o, y, z, rfl⟩ := exists_oct x
    obtain ⟨rfl, assigned⟩ := (xycbAssigned_oct o y z).mp h
    obtain ⟨wf, hcpu, len⟩ := cbOf_wellFormed o y (.idx i d)
    rw [decodeXYCB_assigned assigned]
    refine ⟨wf, hcpu, ?_⟩
    rw [encode_cbOf assigned, len, encodeCB_idx]
    rfl

theorem decodeED_encodedAt : EncodedAt .b [0xED, b1, b2, b3] (decodeED b1 b2 b3) := by
  cases h : edOpcodes.contains b1 with
  | false =>
    rw [decodeED_unassigned h]
    exact ⟨by rw [WellFormed, h, Bool.not_false], rfl, rfl⟩
  | true =>
    apply EncodedAt.of_cons ((decodeED b1 b2 b3).length - 1)
    have mem : b1 ∈ edOpcodes := List.contains_iff_mem.mp h
    fin_cases mem <;> exact ⟨rfl, rfl, rfl, rfl⟩

theorem decodeXY_encodedAt (i : Index) : EncodedAt .b [i.opcode, b1, b2, b3] (decodeXY i b1 b2 b3) := by
  cases h : xyOpcodes.contains b1 with
  | false =>
    rw [decodeXY_lone h]
    exact ⟨rfl, rfl, rfl⟩
  | true =>
    by_cases xycb : b1 = 0xCB
    · subst xycb
      exact decodeXYCB_encodedAt i b2 b3
    by_cases ldXyN : b1 = 0x36
    · subst ldXyN
      exact ⟨rfl, rfl, rfl⟩
    -- the others have at most a displacement or a 16-bit operand
    apply EncodedAt.of_cons ((decodeXY i b1 b2 b3).length - 1)
    have mem : b1 ∈ (xyOpcodes.erase 0xCB).erase 0x36 :=
      (List.mem_erase_of_ne ldXyN).mpr ((List.mem_erase_of_ne xycb).mpr (List.contains_iff_mem.mp h))
    fin_cases mem <;> exact ⟨rfl, rfl, rfl, rfl⟩

theorem decodeMain3_encodedAt (y z : Fin 8) : EncodedAt .b [oct 3 y z, b1, b2, b3] (decodeMain3 y z b1 b2 b3) := by
  match z with
  | 0 | 1 | 7 => fin_cases y <;> exact ⟨rfl, rfl, rfl⟩
  | 2 | 4 => fin_cases y <;> exact .of_takeWord ⟨rfl, rfl, rfl⟩
  | 3 =>
    match y with
    | 0 => exact .of_takeWord ⟨rfl, rfl, rfl⟩
    | 1 => exact decodeCB_encodedAt b1 b2 b3
    | 2 | 3 | 4 | 5 | 6 | 7 => exact ⟨rfl, rfl, rfl⟩
  | 5 =>
    match y with
    | 1 => exact .of_takeWord ⟨rfl, rfl, rfl⟩
    | 3 => exact decodeXY_encodedAt b1 b2 b3 .ix
    | 5 => exact decodeED_encodedAt b1 b2 b3
    | 7 => exact decodeXY_encodedAt b1 b2 b3 .iy
    | 0 | 2 | 4 | 6 => exact ⟨rfl, rfl, rfl⟩
  | 6 => exact aluOf_imm_encodedAt b1 b2 b3 y

theorem decodeB_encodedAt (b0 : Byte) : EncodedAt .b [b0, b1, b2, b3] (decodeB b0 b1 b2 b3) := by
  obtain ⟨x, y, z, rfl⟩ := exists_oct b0
  match x with
  | 0 => rw [decodeB_oct_zero]; exact decodeMain0_encodedAt b1 b2 b3 y z
  | 1 => rw [decodeB_oct_one]; exact decodeMain1_encodedAt b1 b2 b3 y z
  | 2 => rw [decodeB_oct_two]; exact aluOf_encodedAt b1 b2 b3 y z
  | 3 => rw [decodeB_oct_three]; exact decodeMain3_encodedAt b1 b2 b3 y z

end

/-! ### From the instruction to its bytes and back -/

theorem decode_encode_aluOf (y : Fin 8) (m : Src8) : DecodesTo .b (encode (aluOf y m)) (aluOf y m) := by
  rw [encode_aluOf]
  obtain ⟨z, rfl⟩ | ⟨n, rfl⟩ | ⟨i, d, rfl⟩ := m.cases_code
  · rw [encodeAlu_ofCode]
    exact decodeB_oct_two y z
  · rw [encodeAlu_imm]
    exact fun b2 b3 => decodeB_oct_three y 6 n b2 b3
  · rw [encodeAlu_idx]
    exact fun b3 => (decodeB_index _ _ _ i).trans (decodeXY_alu y i d b3)

theorem decode_encode_cbOf (o : Fin 4) (y : Fin 8) (assigned : ¬ (o = 0 ∧ y = 6)) (v : Loc8) :
    DecodesTo .b (encode (cbOf o y v)) (cbOf o y v) := by
  rw [encode_cbOf assigned]
  obtain ⟨z, rfl⟩ | ⟨i, d, rfl⟩ := v.cases_code
  · rw [encodeCB_ofCode]
    exact fun _ _ => decodeCB_assigned assigned z
  · rw [encodeCB_idx]
    exact (decodeB_index _ _ _ i).trans (decodeXYCB_assigned assigned i d)

/-- INC and DEC on a location (R380, R381) share their bytes but for the lowest bit. -/
theorem decode_encode_incDec (v : Loc8) :
    DecodesTo .b (encode (.bInc v)) (.bInc v) ∧ DecodesTo .b (encode (.bDec v)) (.bDec v) := by
  cases v with
  | reg r => cases r <;> exact ⟨fun _ _ _ => rfl, fun _ _ _ => rfl⟩
  | hl => exact ⟨fun _ _ _ => rfl, fun _ _ _ => rfl⟩
  | idx i d => cases i <;> exact ⟨fun _ => rfl, fun _ => rfl⟩

/-- R128 to R133, read from the instruction: the decoder finds it behind its encoding. A DD or FD byte alone is left out,
because it is an instruction only before certain bytes. -/
theorem decode_encode_cpuB {i : Instr} (hb : i.cpu = .b) (wf : WellFormed i = true) (prefixed : ∀ k, i ≠ .bUnkXy k) :
    DecodesTo .b (encode i) i := by
  cases i with
  -- the families
  | bAdd m => exact decode_encode_aluOf 0 m
  | bAdc m => exact decode_encode_aluOf 1 m
  | bSub m => exact decode_encode_aluOf 2 m
  | bSbc m => exact decode_encode_aluOf 3 m
  | bAnd m => exact decode_encode_aluOf 4 m
  | bXor m => exact decode_encode_aluOf 5 m
  | bOr m => exact decode_encode_aluOf 6 m
  | bCp m => exact decode_encode_aluOf 7 m
  | bInc v => exact (decode_encode_incDec v).1
  | bDec v => exact (decode_encode_incDec v).2
  | bRlc v => exact decode_encode_cbOf 0 0 (by decide) v
  | bRrc v => exact decode_encode_cbOf 0 1 (by decide) v
  | bRl v => exact decode_encode_cbOf 0 2 (by decide) v
  | bRr v => exact decode_encode_cbOf 0 3 (by decide) v
  | bSla v => exact decode_encode_cbOf 0 4 (by decide) v
  | bSra v => exact decode_encode_cbOf 0 5 (by decide) v
  | bSrl v => exact decode_encode_cbOf 0 7 (by decide) v
  | bBit b v => exact decode_encode_cbOf 1 b (by simp) v
  | bRes b v => exact decode_encode_cbOf 2 b (by simp) v
  | bSet b v => exact decode_encode_cbOf 3 b (by simp) v
  -- a 16-bit operand
  | bLdAMem nn => exact fun _ => congrArg Instr.bLdAMem (word_hi_lo nn)
  | bLdMemA nn => exact fun _ => congrArg Instr.bLdMemA (word_hi_lo nn)
  | bLdHlMem nn => exact fun _ => congrArg Instr.bLdHlMem (word_hi_lo nn)
  | bLdMemHl nn => exact fun _ => congrArg Instr.bLdMemHl (word_hi_lo nn)
  | bJp nn => exact fun _ => congrArg Instr.bJp (word_hi_lo nn)
  | bCall nn => exact fun _ => congrArg Instr.bCall (word_hi_lo nn)
  | bLdDdNn p nn => cases p <;> exact fun _ => congrArg (Instr.bLdDdNn _) (word_hi_lo nn)
  | bJpCc cc nn => cases cc <;> exact fun _ => congrArg (Instr.bJpCc _) (word_hi_lo nn)
  | bCallCc cc nn => cases cc <;> exact fun _ => congrArg (Instr.bCallCc _) (word_hi_lo nn)
  | bLdDdMem p nn => cases p <;> exact congrArg (Instr.bLdDdMem _) (word_hi_lo nn)
  | bLdMemDd nn p => cases p <;> exact congrArg (Instr.bLdMemDd · _) (word_hi_lo nn)
  | bLdXyNn i nn => cases i <;> exact congrArg (Instr.bLdXyNn _) (word_hi_lo nn)
  | bLdXyMem i nn => cases i <;> exact congrArg (Instr.bLdXyMem _) (word_hi_lo nn)
  | bLdMemXy nn i => cases i <;> exact congrArg (Instr.bLdMemXy · _) (word_hi_lo nn)
  -- operand codes in the opcode
  | bLdRR r s => cases r <;> cases s <;> exact fun _ _ _ => rfl
  | bLdRHl r | bLdHlR r => cases r <;> exact fun _ _ _ => rfl
  | bLdRN r | bInRC r | bOutCR r => cases r <;> exact fun _ _ => rfl
  | bAddHl p | bIncSs p | bDecSs p | bPush p | bPop p => cases p <;> exact fun _ _ _ => rfl
  | bAdcHl p | bSbcHl p => cases p <;> exact fun _ _ => rfl
  | bRetCc cc => cases cc <;> exact fun _ _ _ => rfl
  | bJrCc cc => cases cc <;> exact fun _ _ => rfl
  | bRst t => fin_cases t <;> exact fun _ _ _ => rfl
  | bIm m => cases m <;> exact fun _ _ => rfl
  -- the XY map
  | bLdRXy r i => cases i <;> cases r <;> exact fun _ => rfl
  | bLdXyR i _ r => cases i <;> cases r <;> exact fun _ => rfl
  | bLdXyN i => cases i <;> rfl
  | bAddXy i p => cases i <;> cases p <;> exact fun _ _ => rfl
  | bLdSpXy i | bPushXy i | bPopXy i | bExSpXy i | bIncXy i | bDecXy i | bJpXy i => cases i <;> exact fun _ _ => rfl
  -- the unknown forms
  | bUnkCb s => fin_cases s <;> exact fun _ _ => rfl
  | bUnkEd => exact decodeED_unassigned (by simpa [WellFormed] using wf)
  | bUnkXycb i d x =>
    exact (decodeB_index _ _ _ i).trans (decodeXYCB_unassigned (by simpa [WellFormed] using wf) i d)
  | bUnkXy i => exact absurd rfl (prefixed i)
  -- no operand in the opcode
  | bLdHlN | bLdAI | bLdARefresh | bLdIA | bLdRefreshA | bLdi | bLdir | bLdd | bLddr | bCpi | bCpir | bCpd | bCpdr
  | bNeg | bRld | bRrd | bJr | bDjnz | bReti | bRetn | bInAN | bIni | bInir | bInd | bIndr
  | bOutNA | bOuti | bOtir | bOutd | bOtdr => exact fun _ _ => rfl
  | bLdABc | bLdADe | bLdBcA | bLdDeA | bLdSpHl | bExDeHl | bExAf | bExx | bExSpHl | bDaa | bCpl | bCcf | bScf
  | bRlca | bRla | bRrca | bRra | bJpHl | bRet | bNop | bHalt | bDi | bEi => exact fun _ _ _ => rfl
  | _ => cases hb

end Sys2Proof
end

section
/-! PROOF. The effective addresses of CPU-A as numbers (30_encoding.md R106 to R116), and the statements about encoding
settled from the two maps. -/

namespace Sys2Proof

theorem zext16_eq_ofNat (b : Byte) : zext16 b = BitVec.ofNat 16 b.toNat :=
  (BitVec.ofNat_toNat 16 b).symm

theorem zext16_toNat (b : Byte) : (zext16 b).toNat = b.toNat := by
  rw [zext16, BitVec.toNat_setWidth_of_le (by decide)]

namespace Machine

/-- A pointer in page zero as a number: the low byte first, the second byte within page zero (R113, R114). -/
theorem State.zpPointer_toNat (s : State) (z : Byte) :
    (s.zpPointer z).toNat = (s.read (BitVec.ofNat 16 z.toNat)).toNat +
      256 * (s.read (BitVec.ofNat 16 ((z.toNat + 1) % 256))).toNat := by
  have next : (z + 1).toNat = (z.toNat + 1) % 256 := BitVec.toNat_add z 1
  rw [State.zpPointer, word_toNat, zext16_eq_ofNat, zext16_eq_ofNat, next, Nat.add_comm]

end Machine

end Sys2Proof

namespace Sys2Proof.Proofs

open Sys2Proof.Machine

/-- Settles O3: both maps, read from the instruction. A DD or FD byte alone is decoded by what follows it
(R133). -/
theorem decodeOfEncode : Obligations.DecodeOfEncode := by
  intro i rest wf lone
  cases hc : i.cpu with
  | a => exact (decode_encode_cpuA hc wf).append rest
  | b =>
    by_cases prefixed : ∀ k, i ≠ .bUnkXy k
    · exact (decode_encode_cpuB hc wf prefixed).append rest
    · push Not at prefixed
      obtain ⟨k, rfl⟩ := prefixed
      exact (decodeB_index _ _ _ k).trans (decodeXY_lone (lone k rfl) k _ _)

/-- Settles O4: both maps, read from the bytes. -/
theorem encodeOfDecode : Obligations.EncodeOfDecode := by
  intro cpu b0 b1 b2 b3
  cases cpu with
  | a => exact decodeA_encodedAt b0 b1 b2 b3
  | b => exact decodeB_encodedAt b1 b2 b3 b0

/-- Settles O2: the decoded instruction is the one that `fetch` hands to `exec`. -/
theorem stepRunsTheDecodedInstruction : Obligations.StepRunsTheDecodedInstruction := by
  intro s i _ decoded
  have fetched : s.fetch = i := decoded
  rw [step, fetched]

/-- Settles O21: a sum of bytes wraps in page zero, a sum with an address modulo 65536. -/
theorem effectiveAddresses : Obligations.EffectiveAddresses := by
  intro s z nn
  refine ⟨zext16_toNat z, ?zpx, ?zpy, rfl, ?absx, ?absy, ?indx, ?indy⟩
  case zpx | zpy => rw [State.ea, zext16_toNat, BitVec.toNat_add]
  case absx | absy => rw [State.ea, BitVec.toNat_add, zext16_toNat]
  case indx => rw [State.ea, State.zpPointer_toNat, BitVec.toNat_add, Nat.mod_add_mod]
  case indy => rw [State.ea, BitVec.toNat_add, State.zpPointer_toNat, zext16_toNat]

end Sys2Proof.Proofs
end

section
/-! PROOF. CPU-A's loads, stores, transfers and stack bytes (40_cpua_load_store.md R150 to R166): how an instruction that
passes by ends, and the stack byte as the rules of R16, R23 and R25 write it. -/

namespace Sys2Proof

/-- Four bytes that begin with the encoding of a well-formed instruction decode to it; the premise `lone` is for a DD or FD
byte alone (R133). -/
theorem decode_of_encode_append {i : Instr} {b0 b1 b2 b3 : Byte} (rest : List Byte)
    (bytes : encode i ++ rest = [b0, b1, b2, b3]) (wf : WellFormed i = true)
    (lone : ∀ k, i = .bUnkXy k → xyOpcodes.contains (rest.getD 0 0) = false := by exact nofun) :
    decode i.cpu b0 b1 b2 b3 = i := by
  have decoded := Proofs.decodeOfEncode i rest wf lone
  rw [bytes] at decoded
  exact decoded

/-- `BitVec.toNat_concat` for a bit appended as the status byte appends it. -/
theorem append_ofBool_toNat {n : Nat} (x : BitVec n) (b : Bool) :
    (x ++ BitVec.ofBool b).toNat = x.toNat * 2 + b.toNat :=
  BitVec.toNat_concat x b

namespace Machine

/-! ### The end of an instruction of CPU-A -/

/-- An instruction of CPU-A that does not assign `PC` and whose body leaves `t` leaves `t` passed by (R17). -/
theorem exec_eq_passA {i : Instr} {s t : State} (run : exec i s = runA i (fun _ => t) s)
    (pc : t.cpuA.pc = s.cpuA.pc := by exact rfl) : exec i s = .next (t.passA i) := by
  rw [run, runA, ← pc]; rfl

@[simp] theorem State.passA_read (s : State) (i : Instr) (b : Word) : (s.passA i).read b = s.read b := rfl
@[simp] theorem State.passA_cpuA_p (s : State) (i : Instr) : (s.passA i).cpuA.p = s.cpuA.p := rfl
@[simp] theorem State.passA_pulled8A (s : State) (i : Instr) : (s.passA i).pulled8A = s.pulled8A := rfl

/-! ### The stack byte -/

/-- The stack page is page one (R23). -/
theorem stackAddrA_eq_ofNat (k : Byte) : stackAddrA k = BitVec.ofNat 16 (0x0100 + k.toNat) := by
  have hk := k.isLt
  apply BitVec.eq_of_toNat_eq
  rw [stackAddrA, word_toNat, BitVec.toNat_ofNat, Nat.mod_eq_of_lt (by omega)]; rfl

/-- The pushed status byte as a number: each flag at its place, and ones at bits 5 and 4 (R25). -/
theorem PFlags.toByte_eq_ofNat (p : PFlags) :
    p.toByte = BitVec.ofNat 8 (128 * p.n.toNat + 64 * p.v.toNat + 0x30 + 8 * p.d.toNat + 4 * p.i.toNat +
      2 * p.z.toNat + p.c.toNat) := by
  have high : (BitVec.ofBool p.n ++ BitVec.ofBool p.v ++ 3#2).toNat = 8 * p.n.toNat + 4 * p.v.toNat + 3 := by
    cases p.n <;> cases p.v <;> rfl
  apply BitVec.eq_of_toNat_eq
  rw [BitVec.toNat_ofNat, Nat.mod_eq_of_lt]
  · simp only [toByte, append_ofBool_toNat, high]; omega
  · have hn := p.n.toNat_lt; have hv := p.v.toNat_lt; have hd := p.d.toNat_lt
    have hi := p.i.toNat_lt; have hz := p.z.toNat_lt; have hc := p.c.toNat_lt
    omega

@[simp] theorem State.push8A_cpuA_pc (s : State) (v : Byte) : (s.push8A v).cpuA.pc = s.cpuA.pc := by
  rw [push8A, setS_cpuA_pc, write_cpuA]

/-- A pull finds the byte of the push before it (R23). -/
@[simp] theorem State.push8A_pulled8A (s : State) (v : Byte) : (s.push8A v).pulled8A = v := by
  rw [pulled8A, push8A, setS_cpuA_s, BitVec.sub_add_cancel]
  exact State.read_write_self s (stackAddrA s.cpuA.s) v

/-- A pull after a push brings `S` back (R23). -/
@[simp] theorem State.push8A_pull8A_cpuA_s (s : State) (v : Byte) : (s.push8A v).pull8A.cpuA.s = s.cpuA.s := by
  rw [push8A, pull8A, setS_cpuA_s, setS_cpuA_s, BitVec.sub_add_cancel]

/-- A push, its address in page one (R16, R23). -/
theorem State.push8A_eq (s : State) (v : Byte) :
    s.push8A v = (s.write (BitVec.ofNat 16 (0x0100 + s.cpuA.s.toNat)) v).setS (s.cpuA.s - 1) := by
  rw [push8A, stackAddrA_eq_ofNat]

/-- The byte of a pull, its address in page one (R16, R23). -/
theorem State.pulled8A_eq (s : State) :
    s.pulled8A = s.read (BitVec.ofNat 16 (0x0100 + (s.cpuA.s + 1).toNat)) := by
  rw [pulled8A, stackAddrA_eq_ofNat]

theorem exec_aPha (s : State) : exec .aPha s = .next ((s.push8A s.cpuA.a).passA .aPha) :=
  exec_eq_passA rfl (s.push8A_cpuA_pc _)

theorem exec_aPhp (s : State) : exec .aPhp s = .next ((s.push8A s.cpuA.p.toByte).passA .aPhp) :=
  exec_eq_passA rfl (s.push8A_cpuA_pc _)

theorem exec_aPla (s : State) :
    exec .aPla s = .next (((s.pull8A.setA s.pulled8A).setNZ s.pulled8A).passA .aPla) := exec_eq_passA rfl

theorem exec_aPlp (s : State) :
    exec .aPlp s = .next ((s.pull8A.setP (PFlags.ofByte s.pulled8A)).passA .aPlp) := exec_eq_passA rfl

end Machine

end Sys2Proof

namespace Sys2Proof.Proofs

open Sys2Proof.Machine

/-- Settles O19: the body of a load writes the register and, by `setNZ_A`, the flags (R16). -/
theorem loadsOfCpuA : Obligations.LoadsOfCpuA := by
  intro m s v p
  exact ⟨exec_eq_passA rfl, exec_eq_passA rfl, exec_eq_passA rfl⟩

/-- Settles O22: the body of a transfer writes one register and, but for TXS, `setNZ_A` the flags (R16). -/
theorem transfersOfCpuA : Obligations.TransfersOfCpuA := by
  intro s nz
  refine ⟨?tax, ?tay, ?txa, ?tya, ?tsx, ?txs⟩
  all_goals exact exec_eq_passA rfl

/-- Settles O20: one `write` of the register, which keeps `PC`; what reads back is the rule of `write`. -/
theorem storesOfCpuA : Obligations.StoresOfCpuA := by
  intro m s b
  have pc (v : Byte) : (s.write (s.ea m) v).cpuA.pc = s.cpuA.pc := by rw [State.write_cpuA]
  refine ⟨exec_eq_passA rfl (pc _), exec_eq_passA rfl (pc _), exec_eq_passA rfl (pc _), ?readA, ?readX, ?readY⟩
  all_goals rw [State.passA_read, State.write_read]

/-- Settles O23: each instruction is a push or a pull, with the stack address and the status byte as numbers. PLP pulls
the byte that PHP pushed, and `setP` of a status byte brings the flags back. -/
theorem stackBytesOfCpuA : Obligations.StackBytesOfCpuA := by
  intro s at_ pulled p pbyte
  have pulled_eq : s.pulled8A = pulled := s.pulled8A_eq
  refine ⟨?pha, ?php, ?pla, ?plp, _, _, exec_aPhp s, exec_aPlp _, ?flags, ?stack⟩
  case pha => rw [exec_aPha, State.push8A_eq]
  case php => rw [exec_aPhp, State.push8A_eq, PFlags.toByte_eq_ofNat]
  case pla => rw [exec_aPla, pulled_eq]; rfl
  case plp => rw [exec_aPlp, pulled_eq]; rfl
  case flags =>
    rw [State.passA_cpuA_p, State.setP_cpuA_p, State.passA_pulled8A, State.push8A_pulled8A, PFlags.ofByte_toByte]
  case stack => exact s.push8A_pull8A_cpuA_s p.toByte

/-- Settles O5: each word is the encoding of its instruction, with the bytes after it. -/
theorem specWordsDecode : Obligations.SpecWordsDecode :=
  ⟨decode_of_encode_append (i := .aLda (.imm 0x80)) [0, 0] rfl rfl,
    decode_of_encode_append (i := .aSta (.abs 0xD400)) [0] rfl rfl,
    decode_of_encode_append (i := .aJmpInd 0x12FF) [0] rfl rfl,
    decode_of_encode_append (i := .aJsr 0x0900) [0] rfl rfl,
    decode_of_encode_append (i := .aBpl 0x05) [0, 0] rfl rfl,
    decode_of_encode_append (i := .aNop2 0x04 0xA9) [0, 0] rfl rfl,
    decode_of_encode_append (i := .bLdRN .a 0x07) [0, 0] rfl rfl,
    decode_of_encode_append (i := .bLdRXy .a .ix 0xFE) [0] rfl rfl,
    decode_of_encode_append (i := .bLdXyN .ix 0x01 0x7F) [] rfl rfl,
    decode_of_encode_append (i := .bLdDdMem .bc 0xC000) [] rfl rfl,
    decode_of_encode_append (i := .bLdir) [0, 0] rfl rfl,
    decode_of_encode_append (i := .bBit 2 (.reg .b)) [0, 0] rfl rfl,
    decode_of_encode_append (i := .bRlc (.idx .iy 0x05)) [] rfl rfl,
    decode_of_encode_append (i := .bJrCc .z 0xFA) [0, 0] rfl rfl,
    decode_of_encode_append (i := .bUnkEd 0x71) [0, 0] rfl rfl,
    decode_of_encode_append (i := .bUnkXy .ix) [0x7C, 0, 0] rfl rfl (fun _ _ => rfl)⟩

end Sys2Proof.Proofs
end

section
/-! PROOF. CPU-A's arithmetic, logic, compares, increments, shifts and rotates (41_cpua_arith_logic.md R203 to R223): the
adder of ADC and SBC and the two shifts as exact arithmetic on numbers, and the instructions that rest on them. -/

namespace Sys2Proof

/-- Bit 7 of a byte is its sign. -/
theorem bit_seven (v : Byte) : bit v 7 = v.msb :=
  (BitVec.msb_eq_getLsbD_last v).symm

/-- `m XOR 0xFF` is the one's complement (R223). -/
theorem xor_ff_eq_not (m : Byte) : m ^^^ 0xFF = ~~~m :=
  BitVec.xor_allOnes

theorem xor_ff_toNat (m : Byte) : (m ^^^ 0xFF).toNat = 255 - m.toNat := by
  rw [xor_ff_eq_not, BitVec.toNat_not]

theorem xor_ff_msb (m : Byte) : (m ^^^ 0xFF).msb = !m.msb := by
  rw [xor_ff_eq_not, BitVec.msb_not]; rfl

namespace Machine

/-! ### The adder of ADC and SBC -/

/-- The ninth bit of the sum is the carry (R204). -/
theorem adcA_sum (a m : Byte) (p : PFlags) :
    (adcA a m p).1.toNat + 256 * (adcA a m p).2.c.toNat = a.toNat + m.toNat + p.c.toNat := by
  have ha := a.isLt
  have hm := m.isLt
  have hc := p.c.toNat_lt
  have result : (adcA a m p).1.toNat = (a.toNat + m.toNat + p.c.toNat) % 256 := BitVec.toNat_ofNat _ _
  have carry : (adcA a m p).2.c = decide (255 < a.toNat + m.toNat + p.c.toNat) := rfl
  rw [result, carry]
  by_cases h : 255 < a.toNat + m.toNat + p.c.toNat
  · rw [decide_eq_true h, Bool.toNat_true]; omega
  · rw [decide_eq_false h, Bool.toNat_false]; omega

/-- Overflow: the operands have one sign and the result has the other (R204). -/
theorem adcA_overflow (a m : Byte) (p : PFlags) :
    (adcA a m p).2.v = true ↔ a.msb = m.msb ∧ (adcA a m p).1.msb ≠ a.msb := by
  have sign : (adcA a m p).2.v = (!(a.msb ^^ m.msb) && (a.msb ^^ (adcA a m p).1.msb)) := by
    simp [adcA, bit_seven]
  rw [sign]
  cases a.msb <;> cases m.msb <;> simp

/-- The flags of the adder that depend on the result alone, and the two that it keeps (R204). -/
theorem adcA_flags (a m : Byte) (p : PFlags) :
    (adcA a m p).2.n = (adcA a m p).1.msb ∧ ((adcA a m p).2.z = true ↔ (adcA a m p).1 = 0) ∧
      (adcA a m p).2.d = p.d ∧ (adcA a m p).2.i = p.i :=
  ⟨bit_seven _, beq_iff_eq, rfl, rfl⟩

/-- SBC is ADC of the one's complement of its operand (R223). -/
theorem sbcA_eq_adcA (a m : Byte) (p : PFlags) : sbcA a m p = adcA a (m ^^^ 0xFF) p := by
  have overflow : a ^^^ m = ~~~(a ^^^ (m ^^^ 0xFF)) := by
    rw [xor_ff_eq_not, BitVec.not_xor_right, BitVec.not_not]
  simp only [sbcA, adcA, overflow]

theorem sbcA_flags (a m : Byte) (p : PFlags) :
    (sbcA a m p).2.n = (sbcA a m p).1.msb ∧ ((sbcA a m p).2.z = true ↔ (sbcA a m p).1 = 0) ∧
      (sbcA a m p).2.d = p.d ∧ (sbcA a m p).2.i = p.i := by
  rw [sbcA_eq_adcA]; exact adcA_flags _ _ _

/-- The sum of the adder with `255 - m` for `m`: the difference plus 256 (R205). -/
theorem sbcA_sum (a m : Byte) (p : PFlags) :
    (sbcA a m p).1.toNat + 256 * (sbcA a m p).2.c.toNat + m.toNat = a.toNat + 255 + p.c.toNat := by
  have sum := adcA_sum a (m ^^^ 0xFF) p
  rw [← sbcA_eq_adcA, xor_ff_toNat] at sum
  have hm := m.isLt
  omega

/-- The result is the difference modulo 256 (R205). -/
theorem sbcA_difference (a m : Byte) (p : PFlags) :
    ((sbcA a m p).1.toNat : Int) = ((a.toNat : Int) - m.toNat - (1 - p.c.toNat)) % 256 := by
  have sum := sbcA_sum a m p
  have hr := (sbcA a m p).1.isLt
  omega

/-- The carry of SBC is the absence of a borrow (R205). -/
theorem sbcA_carry (a m : Byte) (p : PFlags) :
    (sbcA a m p).2.c = true ↔ m.toNat + (1 - p.c.toNat) ≤ a.toNat := by
  have sum := sbcA_sum a m p
  have hr := (sbcA a m p).1.isLt
  have hc := p.c.toNat_lt
  rw [← Bool.toNat_eq_one]
  omega

/-- Overflow: the operands have different signs and the result has the sign of `m` (R205). -/
theorem sbcA_overflow (a m : Byte) (p : PFlags) :
    (sbcA a m p).2.v = true ↔ a.msb ≠ m.msb ∧ (sbcA a m p).1.msb ≠ a.msb := by
  rw [sbcA_eq_adcA, adcA_overflow, xor_ff_msb, Bool.eq_not]

theorem exec_aAdc (m : AOperand) (s : State) :
    let r := adcA s.cpuA.a (s.operand m) s.cpuA.p
    exec (.aAdc m) s = .next (((s.setA r.1).setP r.2).passA (.aAdc m)) := exec_eq_passA rfl

theorem exec_aSbc (m : AOperand) (s : State) :
    let r := sbcA s.cpuA.a (s.operand m) s.cpuA.p
    exec (.aSbc m) s = .next (((s.setA r.1).setP r.2).passA (.aSbc m)) := exec_eq_passA rfl

/-! ### The shifts -/

/-- Nine bits: the bit shifted out above the result is the operand above the bit shifted in. -/
theorem shiftLeft_cons (v : Byte) (c : Bool) :
    BitVec.cons (shiftLeft v c).2 (shiftLeft v c).1 = BitVec.concat v c := by
  ext k hk
  rw [BitVec.getElem_cons, BitVec.getElem_concat]
  by_cases top : k = 8
  · simp [top, shiftLeft, bit]
  · by_cases low : k = 0
    · simp [low, shiftLeft]
    · simp [top, low, shiftLeft]

/-- Nine bits: the result above the bit shifted out is the bit shifted in above the operand. -/
theorem shiftRight_concat (v : Byte) (c : Bool) :
    BitVec.concat (shiftRight v c).1 (shiftRight v c).2 = BitVec.cons c v := by
  ext k hk
  rw [BitVec.getElem_cons, BitVec.getElem_concat]
  by_cases low : k = 0
  · simp [low, shiftRight, bit]
  · by_cases top : k = 8
    · simp [top, shiftRight]
    · have above : 1 + (k - 1) = k := by omega
      have kept : k - 1 < 7 := by omega
      simp [top, low, above, kept, shiftRight, BitVec.getLsbD_eq_getElem (show k < 8 by omega)]

theorem shiftLeft_toNat (v : Byte) (c : Bool) :
    (shiftLeft v c).1.toNat + 256 * (shiftLeft v c).2.toNat = 2 * v.toNat + c.toNat := by
  have nine := congrArg BitVec.toNat (shiftLeft_cons v c)
  rw [BitVec.toNat_cons', BitVec.toNat_concat, Nat.shiftLeft_eq] at nine
  omega

theorem shiftRight_toNat (v : Byte) (c : Bool) :
    2 * (shiftRight v c).1.toNat + (shiftRight v c).2.toNat = v.toNat + 256 * c.toNat := by
  have nine := congrArg BitVec.toNat (shiftRight_concat v c)
  rw [BitVec.toNat_cons', BitVec.toNat_concat, Nat.shiftLeft_eq] at nine
  omega

/-! ### Results written back -/

@[simp] theorem State.setTarget_cpuA_pc (s : State) (g : ATarget) (r : Byte) :
    (s.setTarget g r).cpuA.pc = s.cpuA.pc := by
  cases g with
  | acc => rfl
  | mem m => exact congrArg CpuA.pc (s.write_cpuA (s.ea m) r)

/-- A shift or rotate passes by with its result written back and its flags. -/
theorem exec_eq_shiftTarget {i : Instr} {g : ATarget} {s : State} {r : Shifted}
    (run : exec i s = runA i (fun _ => s.shiftTarget g r) s) :
    exec i s = .next (((s.setTarget g r.1).setP (s.cpuA.p.shifted r)).passA i) :=
  exec_eq_passA run (s.setTarget_cpuA_pc g r.1)

/-- An instruction that rewrites the byte at `a` and sets N and Z from it (R203). -/
theorem exec_eq_write_setNZ {i : Instr} {s : State} {a : Word} {r : Byte}
    (run : exec i s = runA i (fun _ => (s.write a r).setNZ r) s) :
    exec i s = .next (((s.write a r).setP (s.cpuA.p.nz r)).passA i) := by
  rw [State.setNZ, State.write_cpuA] at run
  exact exec_eq_passA run (by rw [State.setP_cpuA_pc, State.write_cpuA])

end Machine

end Sys2Proof

namespace Sys2Proof.Proofs

open Sys2Proof.Machine

/-- Settles O24: the laws of the adder, for SBC through `sbcA_eq_adcA`, which also makes SBC and ADC of the complement
one computation. -/
theorem addAndSubtractOfCpuA : Obligations.AddAndSubtractOfCpuA := by
  refine ⟨fun m s => ⟨?adc, ?sbc⟩, fun n s => ⟨_, _, exec_aSbc (.imm n) s, exec_aAdc _ s, ?complement⟩⟩
  case adc => exact ⟨_, exec_aAdc m s, rfl, adcA_sum _ _ _, adcA_overflow _ _ _, adcA_flags _ _ _⟩
  case sbc =>
    exact ⟨_, exec_aSbc m s, rfl, sbcA_difference _ _ _, sbcA_carry _ _ _, sbcA_overflow _ _ _, sbcA_flags _ _ _⟩
  case complement => rw [sbcA_eq_adcA]; rfl

/-- Settles O27: each instruction is a shift left or right, with 0 or the carry shifted in. -/
theorem shiftsOfCpuA : Obligations.ShiftsOfCpuA := by
  intro g s v c done
  refine ⟨?asl, ?lsr, ?rol, ?ror⟩
  case asl => exact ⟨_, _, _, exec_eq_shiftTarget rfl, rfl, shiftLeft_toNat _ false⟩
  case lsr => exact ⟨_, _, _, exec_eq_shiftTarget rfl, rfl, shiftRight_toNat _ false⟩
  case rol => exact ⟨_, _, _, exec_eq_shiftTarget rfl, rfl, shiftLeft_toNat _ s.cpuA.p.c⟩
  case ror => exact ⟨_, _, _, exec_eq_shiftTarget rfl, rfl, shiftRight_toNat _ s.cpuA.p.c⟩

/-- Settles O25: the body of each instruction writes the accumulator and the flags, or the flags alone. -/
theorem logicAndComparesOfCpuA : Obligations.LogicAndComparesOfCpuA := by
  refine ⟨fun m s => ⟨?and, ?ora, ?eor, ?cmp, ?cpx, ?cpy⟩, fun m s => ?bit⟩
  all_goals exact exec_eq_passA rfl

/-- Settles O26: INC and DEC rewrite one byte of memory, the others one register; each sets N and Z from the result. -/
theorem incrementsOfCpuA : Obligations.IncrementsOfCpuA := by
  intro m s nz x
  refine ⟨exec_eq_write_setNZ rfl, exec_eq_write_setNZ rfl, ?inx, ?iny, ?dex, ?dey⟩
  all_goals exact exec_eq_passA rfl

end Sys2Proof.Proofs
end

section
/-! PROOF. CPU-A's branches, jumps, subroutines, flag instructions and no-ops (42_cpua_control.md R260 to R285): the branch
target, the stacked word and the pointer of the indirect jump as numbers; and the stacked word of a call, which a return
finds again, on both CPUs (R16, R23, R272, R273). -/

namespace Sys2Proof

/-! ### Words as numbers -/

theorem word_eq_ofNat (h l : Byte) : word h l = BitVec.ofNat 16 (l.toNat + 256 * h.toNat) := by
  rw [Nat.add_comm, ← word_toNat, BitVec.ofNat_toNat, BitVec.setWidth_eq]

theorem hiByte_toNat (w : Word) : (hiByte w).toNat = w.toNat / 256 := by
  have hw := w.isLt
  rw [hiByte, BitVec.extractLsb'_toNat, Nat.shiftRight_eq_div_pow]
  omega

theorem loByte_toNat (w : Word) : (loByte w).toNat = w.toNat % 256 :=
  BitVec.extractLsb'_toNat 0 8 w

/-- The target of a taken branch: the address after it plus the signed offset, modulo 65536 (R260). -/
theorem add_sext16_eq_ofInt (w : Word) (k : Nat) (e : Byte) :
    w + BitVec.ofNat 16 k + sext16 e = BitVec.ofInt 16 ((w.toNat : Int) + k + e.toInt) := by
  rw [BitVec.ofInt_add, BitVec.ofInt_add, BitVec.ofInt_natCast, BitVec.ofInt_natCast, BitVec.ofNat_toNat,
    BitVec.setWidth_eq]
  rfl

namespace Machine

/-- The second address of the pointer stays in the page of the first (R271). -/
theorem samePageNext_eq_ofNat (ptr : Word) :
    samePageNext ptr = BitVec.ofNat 16 (ptr.toNat / 256 * 256 + (ptr.toNat + 1) % 256) := by
  have next : (loByte ptr + 1).toNat = (ptr.toNat + 1) % 256 := by
    rw [BitVec.toNat_add, loByte_toNat, Nat.mod_add_mod]; rfl
  rw [samePageNext, word_eq_ofNat, hiByte_toNat, next, Nat.add_comm, Nat.mul_comm]

/-! ### Branches -/

/-- A branch changes `PC` and the cost and nothing else (R260). -/
theorem branchA_eq (i : Instr) (taken : Bool) (e : Byte) (s : State) :
    branchA i taken e s = .next { s with
      cpuA := { s.cpuA with
        pc := BitVec.ofInt 16 ((s.cpuA.pc.toNat : Int) + 2 + (if taken then e.toInt else 0)) }
      cycles := cyc s.params i taken } := by
  have target : (if taken then s.cpuA.pc + 2 + sext16 e else s.cpuA.pc + 2) =
      BitVec.ofInt 16 ((s.cpuA.pc.toNat : Int) + 2 + (if taken then e.toInt else 0)) := by
    cases taken with
    | true => exact add_sext16_eq_ofInt s.cpuA.pc 2 e
    | false => exact (BitVec.add_zero _).symm.trans (add_sext16_eq_ofInt s.cpuA.pc 2 0)
  rw [branchA, target]; rfl

/-! ### The stacked word of CPU-A -/

theorem stackAddrA_injective : Function.Injective stackAddrA := fun k l h => by
  simpa only [stackAddrA, loByte_word] using congrArg loByte h

/-- `S` has no part in a write. -/
theorem State.write_setS (s : State) (k : Byte) (a : Word) (v : Byte) :
    (s.setS k).write a v = (s.write a v).setS k := by
  have same : ((s.setS k).store a v).chipIndex a = (s.store a v).chipIndex a := rfl
  unfold State.write State.forward
  rw [same]
  split <;> rfl

/-- A push of a word is its two writes, high byte first, and `S` down by 2 (R23, R272). -/
theorem State.push16A_eq (s : State) (w : Word) :
    s.push16A w =
      (s.writeAll [(stackAddrA s.cpuA.s, hiByte w), (stackAddrA (s.cpuA.s - 1), loByte w)]).setS (s.cpuA.s - 2) := by
  have down : s.cpuA.s - 1 - 1 = s.cpuA.s - 2 := by bv_omega
  rw [push16A, push8A, push8A, setS_cpuA_s, write_setS, down]; rfl

theorem State.writeAll_cpuA (ws : List (Word × Byte)) : ∀ s : State, (s.writeAll ws).cpuA = s.cpuA := by
  induction ws with
  | nil => exact fun _ => rfl
  | cons w ws ih => exact fun s => (ih _).trans (State.write_cpuA s w.1 w.2)

@[simp] theorem State.push16A_cpuA_s (s : State) (w : Word) : (s.push16A w).cpuA.s = s.cpuA.s - 2 := by
  rw [push16A_eq, setS_cpuA_s]

theorem State.push16A_read_low (s : State) (w : Word) :
    (s.push16A w).read (stackAddrA (s.cpuA.s - 1)) = loByte w := by
  rw [push16A_eq]
  exact State.read_write_self _ _ _

theorem State.push16A_read_high (s : State) (w : Word) : (s.push16A w).read (stackAddrA s.cpuA.s) = hiByte w := by
  have apart : stackAddrA s.cpuA.s ≠ stackAddrA (s.cpuA.s - 1) := stackAddrA_injective.ne (by bv_omega)
  rw [push16A_eq]
  exact (State.read_write_other _ _ _ _ apart).trans (State.read_write_self _ _ _)

/-- Two pulls from a stack as a push of `w` left it return `w` (R272, R273). -/
theorem State.pulled16A_of_push16A {s u : State} {w : Word} (depth : u.cpuA.s = (s.push16A w).cpuA.s)
    (high : u.read (stackAddrA s.cpuA.s) = (s.push16A w).read (stackAddrA s.cpuA.s))
    (low : u.read (stackAddrA (s.cpuA.s - 1)) = (s.push16A w).read (stackAddrA (s.cpuA.s - 1))) :
    u.pulled16A = w := by
  rw [push16A_cpuA_s] at depth
  have first : u.cpuA.s + 1 = s.cpuA.s - 1 := by bv_omega
  have second : u.pull8A.cpuA.s + 1 = s.cpuA.s := by rw [pull8A, setS_cpuA_s]; bv_omega
  have pull : u.pull8A.read (stackAddrA s.cpuA.s) = u.read (stackAddrA s.cpuA.s) := rfl
  rw [pulled16A, pulled8A, pulled8A, first, second, pull, high, low, push16A_read_high, push16A_read_low, word_hi_lo]

/-! ### The stacked word of CPU-B -/

theorem State.push16B_read_low (s : State) (w : Word) : (s.push16B w).read (s.cpuB.sp - 2) = loByte w :=
  State.read_write_self _ _ _

theorem State.push16B_read_high (s : State) (w : Word) : (s.push16B w).read (s.cpuB.sp - 1) = hiByte w := by
  have apart : s.cpuB.sp - 1 ≠ s.cpuB.sp - 2 := by bv_omega
  exact (State.read_write_other _ _ _ _ apart).trans (State.read_write_self _ _ _)

/-- A pop from a stack as a push of `w` left it returns `w` (R16). -/
theorem State.popped16B_of_push16B {s u : State} {w : Word} (depth : u.cpuB.sp = s.cpuB.sp - 2)
    (high : u.read (s.cpuB.sp - 1) = (s.push16B w).read (s.cpuB.sp - 1))
    (low : u.read (s.cpuB.sp - 2) = (s.push16B w).read (s.cpuB.sp - 2)) : u.popped16B = w := by
  have second : s.cpuB.sp - 2 + 1 = s.cpuB.sp - 1 := by bv_omega
  rw [popped16B, read16, depth, second, high, low, push16B_read_high, push16B_read_low, word_hi_lo]

/-- RET, RETI, RETN and a taken RET cc go to the popped word, `SP` up by 2 (R462 to R465). -/
theorem exec_return {ret : Instr} {u : State}
    (isReturn : ret = .bRet ∨ ret = .bReti ∨ ret = .bRetn ∨ ∃ cc, ret = .bRetCc cc ∧ u.cond cc = true) :
    ∃ w, exec ret u = .next w ∧ w.cpuB.pc = u.popped16B ∧ w.cpuB.sp = u.cpuB.sp + 2 := by
  obtain rfl | rfl | rfl | ⟨cc, rfl, taken⟩ := isReturn
  case inr.inr.inr => exact ⟨_, if_pos taken, rfl, rfl⟩
  all_goals exact ⟨_, rfl, rfl, rfl⟩

/-- CALL, a taken CALL cc and RST push the address after themselves and jump (R460, R461, R475). -/
theorem exec_call {call : Instr} {target len : Word} {s : State}
    (isCall : (∃ nn, call = .bCall nn ∧ target = nn ∧ len = 3) ∨
      (∃ cc nn, call = .bCallCc cc nn ∧ s.cond cc = true ∧ target = nn ∧ len = 3) ∨
      (∃ k : Fin 8, call = .bRst k ∧ target = BitVec.ofNat 16 (8 * k.val) ∧ len = 1)) :
    ∃ v, exec call s = jumpB call v (fun s => s.push16B (s.cpuB.pc + len)) target s := by
  obtain ⟨nn, rfl, rfl, rfl⟩ | ⟨cc, nn, rfl, taken, rfl, rfl⟩ | ⟨k, rfl, rfl, rfl⟩ := isCall
  · exact ⟨false, rfl⟩
  · exact ⟨true, if_pos taken⟩
  · exact ⟨false, rfl⟩

end Machine

end Sys2Proof

namespace Sys2Proof.Proofs

open Sys2Proof.Machine

/-- Settles O31: the stacked word is found again. JSR stacks the address of its own last byte and RTS adds 1; CPU-B's
calls stack the address after them. -/
theorem callAndReturnRoundTrip : Obligations.CallAndReturnRoundTrip := by
  refine ⟨fun nn s u => ⟨_, rfl, rfl, fun depth high low => ⟨_, rfl, ?resumesA, ?depthA⟩⟩,
    fun call target len ret s u isCall isReturn => ?cpuB⟩
  case resumesA =>
    have stacked : u.pulled16A = s.cpuA.pc + 2 := State.pulled16A_of_push16A depth high low
    calc u.pulled16A + 1 = s.cpuA.pc + 2 + 1 := by rw [stacked]
      _ = s.cpuA.pc + 3 := BitVec.add_assoc _ _ _
  case depthA =>
    have pushed : u.cpuA.s = s.cpuA.s - 2 := depth.trans (s.push16A_cpuA_s (s.cpuA.pc + 2))
    calc u.cpuA.s + 1 + 1 = s.cpuA.s - 2 + 1 + 1 := by rw [pushed]
      _ = s.cpuA.s := by bv_omega
  case cpuB =>
    obtain ⟨v, run⟩ := exec_call isCall
    refine ⟨_, run, rfl, fun depth high low => ?_⟩
    obtain ⟨w, ret_eq, pc, sp⟩ := exec_return isReturn
    have stacked : u.popped16B = s.cpuB.pc + len :=
      State.popped16B_of_push16B (s := s.advanceR call.fetches) depth high low
    have pushed : u.cpuB.sp = s.cpuB.sp - 2 := depth
    exact ⟨w, ret_eq, pc.trans stacked, by rw [sp, pushed, BitVec.sub_add_cancel]⟩

/-- Settles O28: each branch is `branchA` on its flag. -/
theorem branchesOfCpuA : Obligations.BranchesOfCpuA := by
  intro e s p branch
  refine ⟨?bpl, ?bmi, ?bvc, ?bvs, ?bcc, ?bcs, ?bne, ?beq⟩
  all_goals exact branchA_eq _ _ e s

/-- Settles O29: the pointer, the stack addresses and the stacked word are read as numbers. -/
theorem jumpsAndSubroutinesOfCpuA : Obligations.JumpsAndSubroutinesOfCpuA := by
  intro nn s at_ sp ret
  refine ⟨rfl, ?jmpInd, ?jsr, ?rts⟩
  case jmpInd =>
    rw [← samePageNext_eq_ofNat, ← word_eq_ofNat]; rfl
  case jsr =>
    have run : exec (.aJsr nn) s = .next (((s.push16A ret).setPcA nn).charge (.aJsr nn) false) := rfl
    rw [run, State.push16A_eq, stackAddrA_eq_ofNat, stackAddrA_eq_ofNat]
    simp only [State.charge, State.setPcA, State.setS, State.writeAll_cpuA, State.writeAll_params]
    rfl
  case rts =>
    have up : sp + 1 + 1 = sp + 2 := BitVec.add_assoc _ _ _
    have pulled : s.pulled16A = word (s.read (stackAddrA (sp + 1 + 1))) (s.read (stackAddrA (sp + 1))) := rfl
    have run : exec .aRts s = .next (((s.setS (sp + 1 + 1)).setPcA (s.pulled16A + 1)).charge .aRts false) := rfl
    rw [run, pulled, up, stackAddrA_eq_ofNat, stackAddrA_eq_ofNat, word_eq_ofNat, BitVec.ofNat_add _ 1]
    rfl

/-- Settles O30: the body of a flag instruction replaces one flag, that of a no-op nothing. -/
theorem flagInstructionsAndNoOpsOfCpuA : Obligations.FlagInstructionsAndNoOpsOfCpuA := by
  intro op n s p skip
  refine ⟨?clc, ?sec, ?cli, ?sei, ?clv, ?cld, ?sed, ?nop, ?nop1, ?nop2, ?unk, ?brk, ?rti⟩
  all_goals exact exec_eq_passA rfl

end Sys2Proof.Proofs
end

section
/-! PROOF. CPU-B's loads, stack instructions, block transfer and block search (43_cpub_load_exchange.md R300 to R333,
R341 to R348): how an instruction of CPU-B ends, and the operations of these rules read as the statements write them. -/

namespace Sys2Proof

theorem loByte_eq_ofNat (w : Word) : loByte w = BitVec.ofNat 8 w.toNat :=
  BitVec.eq_of_toNat_eq (by rw [loByte_toNat, BitVec.toNat_ofNat])

theorem hiByte_eq_ofNat (w : Word) : hiByte w = BitVec.ofNat 8 (w.toNat / 256) := by
  have hw := w.isLt
  apply BitVec.eq_of_toNat_eq
  rw [hiByte_toNat, BitVec.toNat_ofNat, Nat.mod_eq_of_lt (by omega)]

namespace Machine

/-! ### The advance of `R` and `PC` beside the other updates -/

theorem State.advanceR_setReg (s : State) (r : Reg8) (v : Byte) (n : Nat) :
    (s.setReg r v).advanceR n = (s.advanceR n).setReg r v := by
  rw [setReg_eq_setMain, setReg_eq_setMain]; rfl

theorem State.advanceR_setPair (s : State) (p : Pair) (w : Word) (n : Nat) :
    (s.setPair p w).advanceR n = (s.advanceR n).setPair p w := by
  cases p <;> rfl

theorem State.advanceR_setStackPair (s : State) (q : StackPair) (w : Word) (n : Nat) :
    (s.setStackPair q w).advanceR n = (s.advanceR n).setStackPair q w := by
  cases q <;> rfl

theorem State.advanceR_setIndex (s : State) (i : Index) (w : Word) (n : Nat) :
    (s.setIndex i w).advanceR n = (s.advanceR n).setIndex i w := by
  cases i <;> rfl

/-- `R` has no part in a write. -/
theorem State.advanceR_write (s : State) (a : Word) (v : Byte) (n : Nat) :
    (s.write a v).advanceR n = (s.advanceR n).write a v := by
  have same : ((s.advanceR n).store a v).chipIndex a = (s.store a v).chipIndex a := rfl
  unfold State.write State.forward
  rw [same]
  split <;> rfl

theorem State.advanceR_write16 (s : State) (a w : Word) (n : Nat) :
    (s.write16 a w).advanceR n = (s.advanceR n).write16 a w := by
  rw [write16, write16, advanceR_write, advanceR_write]

theorem State.advanceR_push16B (s : State) (w : Word) (n : Nat) :
    (s.push16B w).advanceR n = (s.advanceR n).push16B w := by
  have sp : (s.advanceR n).cpuB.sp = s.cpuB.sp := rfl
  rw [push16B, push16B, sp, ← advanceR_write, ← advanceR_write]; rfl

theorem State.advanceR_exchangeTop (s : State) (w : Word) (n : Nat) :
    (s.exchangeTop w).advanceR n = (s.advanceR n).exchangeTop w := by
  rw [exchangeTop, exchangeTop, advanceR_write, advanceR_write]; rfl

theorem State.advanceR_blockMove (s : State) (step : Word) (n : Nat) :
    (s.blockMove step).advanceR n = (s.advanceR n).blockMove step := by
  have moved : (s.advanceR n).write (s.advanceR n).de ((s.advanceR n).read (s.advanceR n).hl) =
      (s.write s.de (s.read s.hl)).advanceR n := (s.advanceR_write _ _ n).symm
  rw [blockMove, blockMove, moved]; rfl

theorem State.advanceR_blockCompare (s : State) (step : Word) (n : Nat) :
    (s.blockCompare step).advanceR n = (s.advanceR n).blockCompare step := rfl

@[simp] theorem State.setReg_cpuB_pc (s : State) (r : Reg8) (v : Byte) : (s.setReg r v).cpuB.pc = s.cpuB.pc := by
  rw [setReg_eq_setMain, setMain_cpuB_pc]

@[simp] theorem State.setPair_cpuB_pc (s : State) (p : Pair) (w : Word) : (s.setPair p w).cpuB.pc = s.cpuB.pc := by
  cases p <;> rfl

@[simp] theorem State.setStackPair_cpuB_pc (s : State) (q : StackPair) (w : Word) :
    (s.setStackPair q w).cpuB.pc = s.cpuB.pc := by
  cases q <;> rfl

@[simp] theorem State.setIndex_cpuB_pc (s : State) (i : Index) (w : Word) :
    (s.setIndex i w).cpuB.pc = s.cpuB.pc := by
  cases i <;> rfl

@[simp] theorem State.push16B_cpuB_pc (s : State) (w : Word) : (s.push16B w).cpuB.pc = s.cpuB.pc := by
  rw [push16B, setSp_cpuB_pc, write_cpuB, write_cpuB]

@[simp] theorem State.exchangeTop_cpuB (s : State) (w : Word) : (s.exchangeTop w).cpuB = s.cpuB := by
  rw [exchangeTop, write_cpuB, write_cpuB]

@[simp] theorem State.blockMove_cpuB_pc (s : State) (step : Word) : (s.blockMove step).cpuB.pc = s.cpuB.pc := by
  have pc : (s.blockMove step).cpuB.pc = (s.write s.de (s.read s.hl)).cpuB.pc := rfl
  rw [pc, write_cpuB]

@[simp] theorem State.blockCompare_cpuB_pc (s : State) (step : Word) : (s.blockCompare step).cpuB.pc = s.cpuB.pc :=
  rfl

/-! ### The end of an instruction of CPU-B -/

section
variable {i : Instr} {s t : State}

/-- An instruction of CPU-B that does not assign `PC` and whose body leaves `t`, the advance of `R` aside, leaves `t`
passed by (R17, R32). -/
theorem exec_eq_passB (run : exec i s = runB i (fun _ => t.advanceR i.fetches) s := by exact rfl)
    (pc : t.cpuB.pc = s.cpuB.pc := by exact rfl) : exec i s = .next (t.passB i) := by
  rw [run, runB, ← pc]; rfl

/-- The same for a body `f` that the advance of `R` does not disturb. -/
theorem exec_eq_passB_of_advanceR {f : State → State} (run : exec i s = runB i f s)
    (aside : ∀ n, (f s).advanceR n = f (s.advanceR n)) (pc : (f s).cpuB.pc = s.cpuB.pc) :
    exec i s = .next ((f s).passB i) :=
  exec_eq_passB (by rw [run, aside]; rfl) pc

/-- One step of a repeating instruction of CPU-B whose body leaves `t`, the advance of `R` aside: it stays on itself while
the test holds of `t` (R342). -/
theorem exec_eq_goB {again : State → Bool} {v : Bool}
    (run : exec i s = repeatB i (fun _ => t.advanceR i.fetches) again s) (test : again (t.advanceR i.fetches) = v) :
    exec i s = .next (t.goB i v (if v then s.cpuB.pc else s.cpuB.pc + BitVec.ofNat 16 i.length)) := by
  subst test
  rw [run, repeatB]
  cases again (t.advanceR i.fetches) <;> rfl

theorem exec_eq_setReg {r : Reg8} {v : Byte} (run : exec i s = runB i (fun u => u.setReg r v) s := by exact rfl) :
    exec i s = .next ((s.setReg r v).passB i) :=
  exec_eq_passB_of_advanceR run (s.advanceR_setReg r v) (s.setReg_cpuB_pc r v)

theorem exec_eq_write {a : Word} {v : Byte} (run : exec i s = runB i (fun u => u.write a v) s := by exact rfl) :
    exec i s = .next ((s.write a v).passB i) :=
  exec_eq_passB_of_advanceR run (s.advanceR_write a v) (by rw [State.write_cpuB])

theorem exec_eq_write16 {a w : Word} (run : exec i s = runB i (fun u => u.write16 a w) s := by exact rfl) :
    exec i s = .next ((s.write16 a w).passB i) :=
  exec_eq_passB_of_advanceR run (s.advanceR_write16 a w) (by rw [State.write16, State.write_cpuB, State.write_cpuB])

theorem exec_eq_setPair {p : Pair} {w : Word} (run : exec i s = runB i (fun u => u.setPair p w) s := by exact rfl) :
    exec i s = .next ((s.setPair p w).passB i) :=
  exec_eq_passB_of_advanceR run (s.advanceR_setPair p w) (s.setPair_cpuB_pc p w)

theorem exec_eq_setIndex {k : Index} {w : Word}
    (run : exec i s = runB i (fun u => u.setIndex k w) s := by exact rfl) :
    exec i s = .next ((s.setIndex k w).passB i) :=
  exec_eq_passB_of_advanceR run (s.advanceR_setIndex k w) (s.setIndex_cpuB_pc k w)

theorem exec_eq_push16B {w : Word} (run : exec i s = runB i (fun u => u.push16B w) s := by exact rfl) :
    exec i s = .next ((s.push16B w).passB i) :=
  exec_eq_passB_of_advanceR run (s.advanceR_push16B w) (s.push16B_cpuB_pc w)

end

/-! ### What reads back -/

theorem State.reg_setReg (s : State) (r x : Reg8) (v : Byte) :
    (s.setReg r v).reg x = if x = r then v else s.reg x := by
  cases r <;> cases x <;> rfl

@[simp] theorem State.pair_setPair (s : State) (p : Pair) (w : Word) : (s.setPair p w).pair p = w := by
  cases p with
  | bc | de | hl => exact word_hi_lo w
  | sp => rfl

@[simp] theorem State.stackPair_setStackPair (s : State) (q : StackPair) (w : Word) :
    (s.setStackPair q w).stackPair q = w := by
  cases q <;> exact word_hi_lo w

theorem State.setSp_stackPair (s : State) (w : Word) (q : StackPair) : (s.setSp w).stackPair q = s.stackPair q := rfl

theorem State.passB_stackPair (s : State) (i : Instr) (q : StackPair) : (s.passB i).stackPair q = s.stackPair q := rfl

/-- `EA(d)` as a number: the index register plus the signed displacement, modulo 65536 (R300). -/
theorem State.indexed_eq_ofInt (s : State) (i : Index) (d : Byte) :
    s.indexed i d = BitVec.ofInt 16 (((s.index i).toNat : Int) + d.toInt) := by
  simpa [State.indexed] using add_sext16_eq_ofInt (s.index i) 0 d

/-- `MemRead(addr, 2)` as a number (R14). -/
theorem State.read16_eq_ofNat (s : State) (a : Word) :
    s.read16 a = BitVec.ofNat 16 ((s.read a).toNat + 256 * (s.read (a + 1)).toNat) :=
  word_eq_ofNat _ _

/-- `MemWrite(addr, 2, v)`, its two bytes as numbers (R14). -/
theorem State.write16_eq (s : State) (a w : Word) :
    s.write16 a w = (s.write a (BitVec.ofNat 8 w.toNat)).write (a + 1) (BitVec.ofNat 8 (w.toNat / 256)) := by
  rw [write16, loByte_eq_ofNat, hiByte_eq_ofNat]

/-! ### LD A,I and LD A,R -/

/-- The flags of LD A,I and LD A,R (R315, R316). -/
theorem State.loadSpecial_flags (s : State) (v : Byte) :
    (s.loadSpecial v).flags =
      { s := v.msb, z := v == 0, h := false, pv := s.cpuB.iff2, n := false, c := s.flags.c } := by
  rw [loadSpecial, flags_setFlags, FlagSet.sz, bit_seven]

/-- LD A,I and LD A,R: `A` and `F` change, of `F` not bits 5 and 3 (R315, R316). -/
theorem exec_eq_loadSpecial {i : Instr} {s : State} {v : Byte}
    (run : exec i s = runB i (fun u => u.loadSpecial v) s) :
    ∃ t, exec i s = .next t ∧ t = ((s.setReg .a v).setF t.cpuB.main.f).passB i ∧
      t.flags = { s := v.msb, z := v == 0, h := false, pv := s.cpuB.iff2, n := false, c := s.flags.c } ∧
      t.cpuB.main.f.getLsbD 5 = s.cpuB.main.f.getLsbD 5 ∧ t.cpuB.main.f.getLsbD 3 = s.cpuB.main.f.getLsbD 3 :=
  ⟨_, exec_eq_passB (t := s.loadSpecial v) run, rfl, s.loadSpecial_flags v, FlagSet.into_bit_five _ _,
    FlagSet.into_bit_three _ _⟩

/-! ### POP -/

/-- The two halves of a pop in either order (R332). -/
theorem State.pop16B_setStackPair (s : State) (q : StackPair) (w : Word) :
    s.pop16B.setStackPair q w = (s.setStackPair q w).setSp (s.cpuB.sp + 2) := by
  cases q <;> rfl

theorem State.pop16B_setIndex (s : State) (i : Index) (w : Word) :
    s.pop16B.setIndex i w = (s.setIndex i w).setSp (s.cpuB.sp + 2) := by
  cases i <;> rfl

theorem exec_bPop (q : StackPair) (s : State) :
    exec (.bPop q) s = .next (((s.setStackPair q s.popped16B).setSp (s.cpuB.sp + 2)).passB (.bPop q)) := by
  rw [← State.pop16B_setStackPair]
  exact exec_eq_passB (by rw [State.advanceR_setStackPair]; rfl) (State.setStackPair_cpuB_pc _ _ _)

theorem exec_bPopXy (i : Index) (s : State) :
    exec (.bPopXy i) s = .next (((s.setIndex i s.popped16B).setSp (s.cpuB.sp + 2)).passB (.bPopXy i)) := by
  rw [← State.pop16B_setIndex]
  exact exec_eq_passB (by rw [State.advanceR_setIndex]; rfl) (State.setIndex_cpuB_pc _ _ _)

theorem exec_bPush (q : StackPair) (s : State) :
    exec (.bPush q) s = .next ((s.push16B (s.stackPair q)).passB (.bPush q)) := exec_eq_push16B

/-! ### Block transfer and block search -/

/-- The repeat test of LDIR and LDDR sees the decremented `BC` (R342). -/
theorem State.blockMove_moreBytes (s : State) (step : Word) : (s.blockMove step).moreBytes = (s.bc - 1 != 0) :=
  congrArg (· != 0) (word_hi_lo (s.bc - 1))

/-- The comparison as the rules write it: Z says that `A` is the byte at `HL` (R345). -/
theorem State.blockCompare_eq (s : State) (step : Word) :
    s.blockCompare step = ((s.setHl (s.hl + step)).setBc (s.bc - 1)).setFlags
      { s := (s.reg .a - s.read s.hl).msb, z := s.reg .a == s.read s.hl,
        h := decide ((s.reg .a).toNat % 16 < (s.read s.hl).toNat % 16), pv := s.bc - 1 != 0, n := true,
        c := s.flags.c } := by
  have equal : (s.reg .a - s.read s.hl == 0) = (s.reg .a == s.read s.hl) := by
    rw [Bool.eq_iff_iff, beq_iff_eq, beq_iff_eq, sub_eq_zero]
  rw [blockCompare, FlagSet.sz, bit_seven, equal]

/-- The repeat test of CPIR and CPDR sees the decremented `BC` and the new Z (R346). -/
theorem State.blockCompare_moreSearch (s : State) (step : Word) :
    (s.blockCompare step).moreSearch = (s.bc - 1 != 0 && s.reg .a != s.read s.hl) := by
  have bc : (s.blockCompare step).bc = s.bc - 1 := word_hi_lo (s.bc - 1)
  rw [moreSearch, bc, blockCompare_eq, flags_setFlags]; rfl

theorem exec_eq_blockMove {i : Instr} {s : State} {step : Word}
    (run : exec i s = runB i (fun u => u.blockMove step) s := by exact rfl) :
    exec i s = .next ((s.blockMove step).passB i) :=
  exec_eq_passB_of_advanceR run (s.advanceR_blockMove step) (s.blockMove_cpuB_pc step)

theorem exec_eq_blockMove_repeat {i : Instr} {s : State} {step : Word}
    (run : exec i s = repeatB i (fun u => u.blockMove step) State.moreBytes s := by exact rfl) :
    exec i s = .next ((s.blockMove step).goB i (s.bc - 1 != 0)
      (if s.bc - 1 != 0 then s.cpuB.pc else s.cpuB.pc + BitVec.ofNat 16 i.length)) :=
  exec_eq_goB (by rw [run, State.advanceR_blockMove]; rfl) (s.blockMove_moreBytes step)

theorem exec_eq_blockCompare {i : Instr} {s : State} {step : Word}
    (run : exec i s = runB i (fun u => u.blockCompare step) s := by exact rfl) :
    exec i s = .next ((s.blockCompare step).passB i) :=
  exec_eq_passB_of_advanceR run (s.advanceR_blockCompare step) (s.blockCompare_cpuB_pc step)

theorem exec_eq_blockCompare_repeat {i : Instr} {s : State} {step : Word}
    (run : exec i s = repeatB i (fun u => u.blockCompare step) State.moreSearch s := by exact rfl) :
    exec i s = .next ((s.blockCompare step).goB i (s.bc - 1 != 0 && s.reg .a != s.read s.hl)
      (if s.bc - 1 != 0 && s.reg .a != s.read s.hl then s.cpuB.pc else s.cpuB.pc + BitVec.ofNat 16 i.length)) :=
  exec_eq_goB (by rw [run, State.advanceR_blockCompare]; rfl) (s.blockCompare_moreSearch step)

end Machine

end Sys2Proof

namespace Sys2Proof.Proofs

open Sys2Proof.Machine

/-- Settles O32: the body of a load is one `setReg`, that of a store one `write`. -/
theorem loadsOfCpuB : Obligations.LoadsOfCpuB := by
  intro r q i d n nn s ea load store
  have at_ : s.indexed i d = ea := s.indexed_eq_ofInt i d
  refine ⟨⟨exec_eq_setReg, exec_eq_setReg, exec_eq_setReg, ?loadXy, exec_eq_setReg, exec_eq_setReg, exec_eq_setReg⟩,
    exec_eq_write, ?storeXyR, exec_eq_write, ?storeXyN, exec_eq_write, exec_eq_write, exec_eq_write,
    fun v x => s.reg_setReg r x v⟩
  case loadXy => rw [← at_]; exact exec_eq_setReg
  case storeXyR | storeXyN => rw [← at_]; exact exec_eq_write

/-- Settles O33: LD A,R reads `R` after its own advance, LD R,A writes it after the advance, because the advance comes
before the body. -/
theorem specialLoadsOfCpuB : Obligations.SpecialLoadsOfCpuB := by
  intro s rNow got
  exact ⟨exec_eq_loadSpecial rfl, exec_eq_loadSpecial rfl, ⟨_, rfl, rfl⟩, ⟨_, rfl, rfl⟩⟩

/-- Settles O34: the word read and the word written, as numbers. -/
theorem wordLoadsOfCpuB : Obligations.WordLoadsOfCpuB := by
  intro p i nn s w store
  have read : s.read16 nn = w := s.read16_eq_ofNat nn
  refine ⟨exec_eq_setPair, exec_eq_setIndex, ?hlMem, ?ddMem, ?xyMem, ?memHl, ?memDd, ?memXy, exec_eq_passB,
    exec_eq_passB, s.pair_setPair p⟩
  case hlMem => rw [← read]; exact exec_eq_passB
  case ddMem => rw [← read]; exact exec_eq_setPair
  case xyMem => rw [← read]; exact exec_eq_setIndex
  case memHl | memDd | memXy => simp only [store, ← State.write16_eq]; exact exec_eq_write16

/-- Settles O35: POP finds the word that PUSH left. -/
theorem pushAndPopOfCpuB : Obligations.PushAndPopOfCpuB := by
  intro q i s sp push w
  refine ⟨exec_bPush q s, exec_eq_push16B, exec_bPop q s, exec_bPopXy i s, _, _, exec_bPush q s, exec_bPop q _,
    ?pair, BitVec.sub_add_cancel sp 2⟩
  case pair =>
    have found : ((s.push16B (s.stackPair q)).passB (.bPush q)).popped16B = s.stackPair q :=
      State.popped16B_of_push16B rfl rfl rfl
    rw [found, State.passB_stackPair, State.setSp_stackPair, State.stackPair_setStackPair]

/-- Settles O37: one transfer, and the repeat test on the decremented `BC`. -/
theorem blockTransferOfCpuB : Obligations.BlockTransferOfCpuB := by
  intro s left moved again pc
  have once (step : Word) : moved step = s.blockMove step := rfl
  have back : (0xFFFF : Word) = -1 := by decide
  rw [once, once, back]
  exact ⟨exec_eq_blockMove, exec_eq_blockMove, exec_eq_blockMove_repeat, exec_eq_blockMove_repeat⟩

/-- Settles O38: one comparison, and the repeat test on the decremented `BC` and the comparison. -/
theorem blockSearchOfCpuB : Obligations.BlockSearchOfCpuB := by
  intro s left a m compared again pc
  have once (step : Word) : compared step = s.blockCompare step := (s.blockCompare_eq step).symm
  have back : (0xFFFF : Word) = -1 := by decide
  rw [once, once, back]
  exact ⟨exec_eq_blockCompare, exec_eq_blockCompare, exec_eq_blockCompare_repeat, exec_eq_blockCompare_repeat⟩

end Sys2Proof.Proofs
end

section
/-! PROOF. The shadow bank (10_state.md R28): what an instruction's body does to it, for every instruction, and the
exchanges (43_cpub_load_exchange.md R336 to R340). -/

namespace Sys2Proof.Machine

/-! ### Operations that leave the shadow bank alone -/

section
variable (s : State)

theorem State.write_alt (a : Word) (v : Byte) : (s.write a v).cpuB.alt = s.cpuB.alt := by
  rw [write_cpuB]

theorem State.write_write_alt (a b : Word) (v w : Byte) : ((s.write a v).write b w).cpuB.alt = s.cpuB.alt := by
  rw [write_cpuB, write_cpuB]

theorem State.ioWrite_alt (p : Word) (v : Byte) : (s.ioWrite p v).cpuB.alt = s.cpuB.alt := by
  rw [ioWrite_cpuB]

theorem State.setReg_alt (r : Reg8) (v : Byte) : (s.setReg r v).cpuB.alt = s.cpuB.alt := by
  rw [setReg_eq_setMain, setMain_cpuB_alt]

theorem State.setPair_alt (p : Pair) (w : Word) : (s.setPair p w).cpuB.alt = s.cpuB.alt := by
  cases p <;> rfl

theorem State.setStackPair_alt (q : StackPair) (w : Word) : (s.setStackPair q w).cpuB.alt = s.cpuB.alt := by
  cases q <;> rfl

theorem State.setIndex_alt (i : Index) (w : Word) : (s.setIndex i w).cpuB.alt = s.cpuB.alt := by
  cases i <;> rfl

theorem State.setLoc8_alt (v : Loc8) (r : Byte) : (s.setLoc8 v r).cpuB.alt = s.cpuB.alt := by
  cases v with
  | reg q => exact s.setReg_alt q r
  | hl => exact s.write_alt s.hl r
  | idx i d => exact s.write_alt (s.indexed i d) r

theorem State.blockMove_alt (step : Word) : (s.blockMove step).cpuB.alt = s.cpuB.alt :=
  s.write_alt s.de (s.read s.hl)

theorem State.blockCompare_alt (step : Word) : (s.blockCompare step).cpuB.alt = s.cpuB.alt := rfl

theorem State.blockIn_alt (step : Word) : (s.blockIn step).cpuB.alt = s.cpuB.alt :=
  s.write_alt s.hl (ioRead s.params s.bc)

theorem State.blockOut_alt (step : Word) : (s.blockOut step).cpuB.alt = s.cpuB.alt :=
  s.ioWrite_alt (word (s.reg .b - 1) (s.reg .c)) (s.read s.hl)

theorem State.setTarget_alt (g : ATarget) (r : Byte) : (s.setTarget g r).cpuB.alt = s.cpuB.alt := by
  cases g with
  | acc => rfl
  | mem m => exact s.write_alt (s.ea m) r

end

/-! ### Instructions -/

/-- What runs as `e` leaves the shadow bank alone. -/
def KeepsAlt (e : State → Result) : Prop := ∀ s t, e s = .next t → t.cpuB.alt = s.cpuB.alt

section
variable {i : Instr} {f : State → State} {w : State → Word} {v again : State → Bool}
  (hf : ∀ s : State, (f s).cpuB.alt = s.cpuB.alt)
include hf

theorem KeepsAlt.jumpA : KeepsAlt (fun s => Machine.jumpA i (v s) f (w s) s) := by
  intro s t ht
  rw [jumpA_next ht]
  exact hf s

theorem KeepsAlt.passA : KeepsAlt (runA i f) := jumpA (v := fun _ => false) hf

theorem KeepsAlt.jumpB : KeepsAlt (fun s => Machine.jumpB i (v s) f (w s) s) := by
  intro s t ht
  rw [jumpB_next ht]
  exact hf (s.advanceR i.fetches)

theorem KeepsAlt.passB : KeepsAlt (runB i f) := jumpB (v := fun _ => false) hf

theorem KeepsAlt.repeating : KeepsAlt (repeatB i f again) := by
  intro s t ht
  obtain ⟨_, rfl⟩ | ⟨_, rfl⟩ := repeatB_next ht <;> exact hf (s.advanceR i.fetches)

/-- A conditional call or return: where the condition does not hold it passes by. -/
theorem KeepsAlt.conditional :
    KeepsAlt (fun s => if v s then Machine.jumpB i true f (w s) s else runB i id s) := by
  intro s t ht
  beta_reduce at ht
  split at ht
  · exact jumpB (v := fun _ => true) hf s t ht
  · exact passB (f := id) (fun _ => rfl) s t ht

end

/-- Every instruction but EX AF,AF' and EXX leaves the shadow bank alone: the split is that of the instruction rules by the
updates they make. -/
theorem exec_keepsAlt (i : Instr) (exAf : i ≠ .bExAf) (exx : i ≠ .bExx) : KeepsAlt (exec i) := by
  unfold exec
  cases i with
  | bExAf => exact absurd rfl exAf
  | bExx => exact absurd rfl exx
  -- CPU-A
  | aLda | aLdx | aLdy | aTax | aTay | aTxa | aTya | aTsx | aTxs | aPla | aPlp | aAdc | aSbc | aAnd | aOra | aEor
  | aCmp | aCpx | aCpy | aBit | aInx | aIny | aDex | aDey | aClc | aSec | aCli | aSei | aClv | aCld | aSed
  | aNop | aNop1 | aNop2 | aUnk | aBrk | aRti => exact .passA fun _ => rfl
  | aSta | aStx | aSty | aPha | aPhp | aInc | aDec => exact .passA fun s => s.write_alt _ _
  | aAsl | aLsr | aRol | aRor => exact .passA fun s => s.setTarget_alt _ _
  | aBpl | aBmi | aBvc | aBvs | aBcc | aBcs | aBne | aBeq | aJmp | aJmpInd | aRts => exact .jumpA fun _ => rfl
  | aJsr => exact .jumpA fun s => (State.write_alt _ _ _).trans (s.write_alt _ _)
  -- CPU-B: loads, stack, exchanges
  | bLdRR | bLdRN | bLdRHl | bLdRXy | bInRC => exact .passB fun s => s.setReg_alt _ _
  | bLdHlR | bLdXyR | bLdHlN | bLdXyN | bLdBcA | bLdDeA | bLdMemA | bRld | bRrd => exact .passB fun s => s.write_alt _ _
  | bLdDdNn | bLdDdMem | bIncSs | bDecSs => exact .passB fun s => s.setPair_alt _ _
  | bLdXyNn | bLdXyMem | bIncXy | bDecXy | bAddXy => exact .passB fun s => s.setIndex_alt _ _
  | bLdMemHl | bLdMemDd | bLdMemXy | bPush | bPushXy | bExSpHl => exact .passB fun s => s.write_write_alt _ _ _ _
  | bPop => exact .passB fun s => s.pop16B.setStackPair_alt _ _
  | bPopXy => exact .passB fun s => s.pop16B.setIndex_alt _ _
  | bExSpXy => exact .passB fun s => (State.setIndex_alt _ _ _).trans (s.write_write_alt _ _ _ _)
  -- CPU-B: block transfer and search, input and output
  | bLdi | bLdd => exact .passB fun s => s.blockMove_alt _
  | bLdir | bLddr => exact .repeating fun s => s.blockMove_alt _
  | bCpi | bCpd => exact .passB fun s => s.blockCompare_alt _
  | bCpir | bCpdr => exact .repeating fun s => s.blockCompare_alt _
  | bIni | bInd => exact .passB fun s => s.blockIn_alt _
  | bInir | bIndr => exact .repeating fun s => s.blockIn_alt _
  | bOuti | bOutd => exact .passB fun s => s.blockOut_alt _
  | bOtir | bOtdr => exact .repeating fun s => s.blockOut_alt _
  | bOutNA | bOutCR => exact .passB fun s => s.ioWrite_alt _ _
  -- CPU-B: locations
  | bInc | bDec | bRlc | bRrc | bRl | bRr | bSla | bSra | bSrl | bSet | bRes => exact .passB fun s => s.setLoc8_alt _ _
  -- CPU-B: jumps, calls, returns
  | bJp | bJpCc | bJr | bJrCc | bJpHl | bJpXy | bRet | bReti | bRetn | bHalt => exact .jumpB fun _ => rfl
  | bDjnz => exact .jumpB (f := fun s => s.setReg .b (s.reg .b - 1)) fun _ => rfl
  | bCall | bRst => exact .jumpB fun s => s.write_write_alt _ _ _ _
  | bCallCc => exact .conditional fun s => s.write_write_alt _ _ _ _
  | bRetCc => exact .conditional fun _ => rfl
  -- CPU-B: `A`, `F`, `HL` and `SP`, and the registers of the CPU's control
  | bLdABc | bLdADe | bLdAMem | bLdAI | bLdARefresh | bLdIA | bLdRefreshA | bLdHlMem | bLdSpHl | bLdSpXy | bExDeHl
  | bAdd | bAdc | bSub | bSbc | bAnd | bXor | bOr | bCp | bDaa | bCpl | bNeg | bCcf | bScf | bAddHl | bAdcHl | bSbcHl
  | bRlca | bRla | bRrca | bRra | bBit | bInAN | bNop | bDi | bEi | bIm | bUnkCb | bUnkEd | bUnkXy | bUnkXycb =>
    exact .passB fun _ => rfl

/-! ### The exchanges -/

/-- EX DE,HL, register by register (R336). -/
theorem State.setDe_hl_setHl_de (s : State) :
    (s.setDe s.hl).setHl s.de = s.setMain { s.cpuB.main with
      d := s.cpuB.main.h, e := s.cpuB.main.l, h := s.cpuB.main.d, l := s.cpuB.main.e } := by
  simp only [setDe, setHl, hl, de, hiByte_word, loByte_word]; rfl

/-- EX (SP),HL (R339). -/
theorem exec_bExSpHl (s : State) :
    exec .bExSpHl s = .next (((s.exchangeTop s.hl).setHl (s.read16 s.cpuB.sp)).passB .bExSpHl) := by
  have advance (n : Nat) : ((s.exchangeTop s.hl).setHl (s.read16 s.cpuB.sp)).advanceR n =
      ((s.advanceR n).exchangeTop s.hl).setHl (s.read16 s.cpuB.sp) := by
    rw [← State.advanceR_exchangeTop]; rfl
  have pc : (s.exchangeTop s.hl).cpuB.pc = s.cpuB.pc := by rw [State.exchangeTop_cpuB]
  exact exec_eq_passB (by rw [advance]; rfl) pc

/-- EX (SP),XY (R340). -/
theorem exec_bExSpXy (i : Index) (s : State) :
    exec (.bExSpXy i) s =
      .next (((s.exchangeTop (s.index i)).setIndex i (s.read16 s.cpuB.sp)).passB (.bExSpXy i)) := by
  refine exec_eq_passB ?run (by rw [State.setIndex_cpuB_pc, State.exchangeTop_cpuB])
  case run => rw [State.advanceR_setIndex, State.advanceR_exchangeTop]; rfl

end Sys2Proof.Machine

namespace Sys2Proof.Proofs

open Sys2Proof.Machine

/-- Settles O36: each exchange as its rule writes it; the shadow bank is `exec_keepsAlt`. -/
theorem exchangesOfCpuB : Obligations.ExchangesOfCpuB := by
  refine ⟨fun i s => ⟨?exDeHl, ⟨_, _, rfl, rfl, rfl, rfl, rfl⟩, ⟨_, _, rfl, rfl, rfl, rfl, rfl⟩, exec_bExSpHl s,
    exec_bExSpXy i s⟩, fun i s t ht exAf exx => exec_keepsAlt i exAf exx s t ht⟩
  case exDeHl => rw [← State.setDe_hl_setHl_de]; exact exec_eq_passB

end Sys2Proof.Proofs
end

section
/-! PROOF. CPU-B's 8-bit and 16-bit arithmetic and logic (44_cpub_arith_logic.md R370 to R381, R390 to R397): sums,
differences and signed overflow on bit vectors of any width, the adders of the two widths as exact arithmetic, and the
instructions that put a result somewhere and then set the six flags. -/

namespace Sys2Proof

/-! ### Sums and differences of any width -/

/-- The bit above the sum is its carry. -/
theorem ofNat_add_carry {w t : Nat} (small : t < 2 * 2 ^ w) :
    (BitVec.ofNat w t).toNat + 2 ^ w * (decide (2 ^ w ≤ t)).toNat = t := by
  rw [BitVec.toNat_ofNat]
  by_cases carry : 2 ^ w ≤ t
  · rw [decide_eq_true carry, Bool.toNat_true, Nat.mod_eq_sub_mod carry, Nat.mod_eq_of_lt (by omega)]; omega
  · rw [decide_eq_false carry, Bool.toNat_false, Nat.mod_eq_of_lt (by omega)]; omega

/-- A difference below zero is taken modulo `2 ^ w` and borrows. -/
theorem ofInt_sub_borrow {w : Nat} {t : Int} (low : -2 ^ w ≤ t) (high : t < 2 ^ w) :
    ((BitVec.ofInt w t).toNat : Int) - 2 ^ w * (decide (t < 0)).toNat = t := by
  have pos : (0 : Int) < 2 ^ w := by positivity
  rw [BitVec.toNat_ofInt, Int.toNat_of_nonneg (by simp [Int.emod_nonneg, pos.ne']), Nat.cast_pow, Nat.cast_ofNat]
  by_cases neg : t < 0
  · rw [decide_eq_true neg, Bool.toNat_true, ← Int.add_emod_right, Int.emod_eq_of_lt (by omega) (by omega)]; simp
  · rw [decide_eq_false neg, Bool.toNat_false, Int.emod_eq_of_lt (by omega) high]; simp

/-- A signed number by its sign bit. -/
theorem toInt_by_msb {w : Nat} (x : BitVec (w + 1)) :
    (x.msb = false ∧ x.toNat < 2 ^ w ∧ x.toInt = x.toNat) ∨
      (x.msb = true ∧ 2 ^ w ≤ x.toNat ∧ x.toInt = (x.toNat : Int) - 2 * 2 ^ w) := by
  have msb : x.msb = decide (2 ^ w ≤ x.toNat) := BitVec.msb_eq_decide x
  have signed := BitVec.toInt_eq_msb_cond x
  by_cases neg : 2 ^ w ≤ x.toNat
  · rw [decide_eq_true neg] at msb
    exact .inr ⟨msb, neg, by rw [signed, if_pos msb, pow_succ]; push_cast; omega⟩
  · rw [decide_eq_false neg] at msb
    exact .inl ⟨msb, by omega, by rw [signed, msb]; rfl⟩

/-- The sign of the result differs from that of both operands just when the signed sum does not fit (R418). The cases
are those of the three signs. -/
theorem overflow_of_sum {w : Nat} {a b r : BitVec (w + 1)} {c k : Bool}
    (sum : r.toNat + 2 ^ (w + 1) * k.toNat = a.toNat + b.toNat + c.toNat) :
    ((a ^^^ r) &&& (b ^^^ r)).msb = true ↔ r.toInt ≠ a.toInt + b.toInt + c.toNat := by
  have small := c.toNat_lt
  have carry : 2 ^ (w + 1) * k.toNat = 0 ∨ 2 ^ (w + 1) * k.toNat = 2 * 2 ^ w := by
    cases k <;> simp [pow_succ, mul_comm]
  have top : ((2 ^ w : Nat) : Int) = 2 ^ w := Nat.cast_pow 2 w
  rw [BitVec.msb_and, BitVec.msb_xor, BitVec.msb_xor]
  obtain ⟨ma, la, ia⟩ | ⟨ma, la, ia⟩ := toInt_by_msb a <;>
  obtain ⟨mb, lb, ib⟩ | ⟨mb, lb, ib⟩ := toInt_by_msb b <;>
  obtain ⟨mr, lr, ir⟩ | ⟨mr, lr, ir⟩ := toInt_by_msb r <;>
  simp [ma, mb, mr, ia, ib, ir] <;> omega

/-- The same for a difference, read as the sum `a = r + b + c` (R418). -/
theorem overflow_of_difference {w : Nat} {a b r : BitVec (w + 1)} {c k : Bool}
    (difference : (r.toNat : Int) - 2 ^ (w + 1) * k.toNat = (a.toNat : Int) - b.toNat - c.toNat) :
    ((a ^^^ b) &&& (a ^^^ r)).msb = true ↔ r.toInt ≠ a.toInt - b.toInt - c.toNat := by
  have sum : a.toNat + 2 ^ (w + 1) * k.toNat = r.toNat + b.toNat + c.toNat := by zify; omega
  have swap : (a ^^^ b) &&& (a ^^^ r) = (r ^^^ a) &&& (b ^^^ a) := by
    rw [BitVec.and_comm, BitVec.xor_comm a r, BitVec.xor_comm a b]
  rw [swap, overflow_of_sum sum]
  omega

/-! ### Bits of a byte and of a word -/

/-- Bit 15 of a word is its sign. -/
theorem getLsbD_fifteen (w : Word) : w.getLsbD 15 = w.msb :=
  (BitVec.msb_eq_getLsbD_last w).symm

/-- The low digit of a byte. -/
theorem and_0F_toNat (v : Byte) : (v &&& 0x0F).toNat = v.toNat % 16 :=
  (BitVec.toNat_and v 0x0F).trans (Nat.and_two_pow_sub_one_eq_mod v.toNat 4)

/-- A count is even when the exclusive or of its conditions is false. -/
theorem countP_even_eq_not_xor (p : Nat → Bool) (l : List Nat) :
    decide (l.countP p % 2 = 0) = !l.foldr (fun k odd => p k ^^ odd) false := by
  induction l with
  | nil => rfl
  | cons k l ih =>
    rw [List.countP_cons, List.foldr_cons, ← Bool.xor_not, ← ih]
    cases p k with
    | false => simp
    | true => rw [Bool.true_xor, ← decide_not, decide_eq_decide, if_pos rfl]; omega

/-- `parity` counts the 1 bits (R16). -/
theorem parity_eq_countP (v : Byte) : parity v = decide ((List.range 8).countP v.getLsbD % 2 = 0) := by
  have bits : List.range 8 = [0, 1, 2, 3, 4, 5, 6, 7] := rfl
  rw [countP_even_eq_not_xor, bits]
  simp [parity, bit]

namespace Machine

/-! ### The adders -/

section
variable (a b : Byte) (c : Bool)

theorem add8_sum : (add8 a b c).1.toNat + 256 * (add8 a b c).2.c.toNat = a.toNat + b.toNat + c.toNat := by
  have hc : bitNat c < 2 := c.toNat_lt
  exact ofNat_add_carry (w := 8) (by omega)

theorem add8_halfCarry : (add8 a b c).2.h = true ↔ 16 ≤ a.toNat % 16 + b.toNat % 16 + c.toNat :=
  decide_eq_true_iff

theorem add8_overflow : (add8 a b c).2.pv = true ↔ (add8 a b c).1.toInt ≠ a.toInt + b.toInt + c.toNat := by
  rw [← overflow_of_sum (w := 7) (add8_sum a b c), ← bit_seven]; rfl

theorem sub8_difference :
    ((sub8 a b c).1.toNat : Int) - 256 * (sub8 a b c).2.c.toNat = (a.toNat : Int) - b.toNat - c.toNat := by
  have hc : bitNat c < 2 := c.toNat_lt
  exact ofInt_sub_borrow (w := 8) (by omega) (by omega)

theorem sub8_halfBorrow : (sub8 a b c).2.h = true ↔ a.toNat % 16 < b.toNat % 16 + c.toNat :=
  decide_eq_true_iff.trans (by change _ - _ - (c.toNat : Int) < 0 ↔ _; omega)

theorem sub8_overflow : (sub8 a b c).2.pv = true ↔ (sub8 a b c).1.toInt ≠ a.toInt - b.toInt - c.toNat := by
  rw [← overflow_of_difference (w := 7) (sub8_difference a b c), ← bit_seven]; rfl

theorem sub8_borrow : (sub8 a b c).2.c = true ↔ a.toNat < b.toNat + c.toNat :=
  decide_eq_true_iff.trans (by change _ - _ - (c.toNat : Int) < 0 ↔ _; omega)

theorem sub8_result : (sub8 a b false).1 = a - b := by
  have difference := sub8_difference a b false
  rw [Bool.toNat_false] at difference
  apply BitVec.eq_of_toNat_eq
  rw [BitVec.toNat_sub]
  omega

/-- Z of SUB and CP says that the operands are equal (R379). -/
theorem sub8_zero : (sub8 a b false).2.z = true ↔ a = b := by
  have zero : (sub8 a b false).2.z = ((sub8 a b false).1 == 0) := rfl
  rw [zero, beq_iff_eq, sub8_result, sub_eq_zero]

end

section
variable (a b : Word) (c : Bool) (fl : FlagSet)

theorem add16_sum : (add16 a b fl).1.toNat + 65536 * (add16 a b fl).2.c.toNat = a.toNat + b.toNat := by
  exact ofNat_add_carry (w := 16) (by omega)

theorem add16_halfCarry : (add16 a b fl).2.h = true ↔ 4096 ≤ a.toNat % 4096 + b.toNat % 4096 :=
  decide_eq_true_iff

theorem adc16_sum : (adc16 a b c).1.toNat + 65536 * (adc16 a b c).2.c.toNat = a.toNat + b.toNat + c.toNat := by
  have hc : bitNat c < 2 := c.toNat_lt
  exact ofNat_add_carry (w := 16) (by omega)

theorem adc16_halfCarry : (adc16 a b c).2.h = true ↔ 4096 ≤ a.toNat % 4096 + b.toNat % 4096 + c.toNat :=
  decide_eq_true_iff

theorem adc16_overflow : (adc16 a b c).2.pv = true ↔ (adc16 a b c).1.toInt ≠ a.toInt + b.toInt + c.toNat := by
  rw [← overflow_of_sum (w := 15) (adc16_sum a b c), ← getLsbD_fifteen]; rfl

theorem sbc16_difference :
    ((sbc16 a b c).1.toNat : Int) - 65536 * (sbc16 a b c).2.c.toNat = (a.toNat : Int) - b.toNat - c.toNat := by
  have hc : bitNat c < 2 := c.toNat_lt
  exact ofInt_sub_borrow (w := 16) (by omega) (by omega)

theorem sbc16_halfBorrow : (sbc16 a b c).2.h = true ↔ a.toNat % 4096 < b.toNat % 4096 + c.toNat :=
  decide_eq_true_iff.trans (by change _ - _ - (c.toNat : Int) < 0 ↔ _; omega)

theorem sbc16_overflow : (sbc16 a b c).2.pv = true ↔ (sbc16 a b c).1.toInt ≠ a.toInt - b.toInt - c.toNat := by
  rw [← overflow_of_difference (w := 15) (sbc16_difference a b c), ← getLsbD_fifteen]; rfl

end

/-! ### Flags of a result -/

/-- `szp(v)`, its parity as a count (R16). -/
theorem FlagSet.szp_eq (fl : FlagSet) (v : Byte) :
    fl.szp v = { fl with
      s := v.msb, z := v == 0, pv := decide ((List.range 8).countP v.getLsbD % 2 = 0) } := by
  rw [szp, sz, bit_seven, parity_eq_countP]

/-- The flags of AND, XOR and OR (R370). -/
theorem logic8_eq (r : Byte) (h : Bool) :
    logic8 r h =
      { s := r.msb, z := r == 0, h := h, pv := decide ((List.range 8).countP r.getLsbD % 2 = 0), n := false,
        c := false } := by
  rw [logic8, bit_seven, parity_eq_countP]

/-- The flags of INC read from the operand (R380). -/
theorem inc8_eq (v : Byte) (fl : FlagSet) :
    inc8 v fl = (v + 1,
      { s := (v + 1).msb, z := v == 0xFF, h := decide (v.toNat % 16 = 15), pv := v == 0x7F, n := false,
        c := fl.c }) := by
  have zero : (v + 1 == 0) = (v == 0xFF) := by
    rw [Bool.eq_iff_iff, beq_iff_eq, beq_iff_eq, add_eq_zero_iff_eq_neg]; rfl
  have half : (v &&& 0x0F == 0x0F) = decide (v.toNat % 16 = 15) := by
    rw [Bool.eq_iff_iff, beq_iff_eq, decide_eq_true_iff, ← and_0F_toNat, ← BitVec.toNat_inj]; rfl
  rw [inc8, FlagSet.sz, bit_seven, zero, half]

/-- The flags of DEC read from the operand (R381). -/
theorem dec8_eq (v : Byte) (fl : FlagSet) :
    dec8 v fl = (v - 1,
      { s := (v - 1).msb, z := v == 1, h := decide (v.toNat % 16 = 0), pv := v == 0x80, n := true,
        c := fl.c }) := by
  have zero : (v - 1 == 0) = (v == 1) := by
    rw [Bool.eq_iff_iff, beq_iff_eq, beq_iff_eq, sub_eq_zero]
  have half : (v &&& 0x0F == 0x00) = decide (v.toNat % 16 = 0) := by
    rw [Bool.eq_iff_iff, beq_iff_eq, decide_eq_true_iff, ← and_0F_toNat, ← BitVec.toNat_inj]; rfl
  rw [dec8, FlagSet.sz, bit_seven, zero, half]

/-! ### A result and the six flags written back -/

theorem State.advanceR_setLoc8 (s : State) (l : Loc8) (v : Byte) (n : Nat) :
    (s.setLoc8 l v).advanceR n = (s.advanceR n).setLoc8 l v := by
  cases l with
  | reg r => exact s.advanceR_setReg r v n
  | hl => exact s.advanceR_write s.hl v n
  | idx i d => exact s.advanceR_write (s.indexed i d) v n

@[simp] theorem State.setLoc8_cpuB_pc (s : State) (l : Loc8) (v : Byte) : (s.setLoc8 l v).cpuB.pc = s.cpuB.pc := by
  cases l with
  | reg r => exact s.setReg_cpuB_pc r v
  | hl => exact congrArg CpuB.pc (s.write_cpuB s.hl v)
  | idx i d => exact congrArg CpuB.pc (s.write_cpuB (s.indexed i d) v)

@[simp] theorem State.flags_setFlags_passB (s : State) (fl : FlagSet) (i : Instr) :
    ((s.setFlags fl).passB i).flags = fl :=
  s.flags_setFlags fl

section
variable {i : Instr} {s : State}

/-- An instruction whose own body does what `f` does, on the state after the advance of `R` (R32), runs as `f`. -/
theorem exec_eq_runB {f : State → State}
    (same : exec i s = .next (((f (s.advanceR i.fetches)).setPcB (s.cpuB.pc + BitVec.ofNat 16 i.length)).charge i
      false)) : exec i s = runB i f s :=
  same

/-- An instruction that makes the update `f` and sets the six flags. -/
theorem exec_eq_setFlags_after {f : State → State} {fl : FlagSet}
    (run : exec i s = runB i (fun u => (f u).setFlags fl) s) (aside : ∀ n, (f s).advanceR n = f (s.advanceR n))
    (pc : (f s).cpuB.pc = s.cpuB.pc) : exec i s = .next (((f s).setFlags fl).passB i) :=
  exec_eq_passB_of_advanceR (f := fun u => (f u).setFlags fl) run (fun n => by rw [← aside]; rfl) pc

theorem exec_eq_setFlags {fl : FlagSet} (run : exec i s = runB i (fun u => u.setFlags fl) s) :
    exec i s = .next ((s.setFlags fl).passB i) :=
  exec_eq_setFlags_after (f := id) run (fun _ => rfl) rfl

theorem exec_eq_setAcc {r : Byte × FlagSet}
    (run : exec i s = runB i (fun u => u.setAcc r) s) :
    exec i s = .next (((s.setReg .a r.1).setFlags r.2).passB i) :=
  exec_eq_setFlags_after run (s.advanceR_setReg .a r.1) (s.setReg_cpuB_pc .a r.1)

theorem exec_eq_setLoc8 {l : Loc8} {v : Byte}
    (run : exec i s = runB i (fun u => u.setLoc8 l v) s) :
    exec i s = .next ((s.setLoc8 l v).passB i) :=
  exec_eq_passB_of_advanceR run (s.advanceR_setLoc8 l v) (s.setLoc8_cpuB_pc l v)

theorem exec_eq_setLoc8_setFlags {l : Loc8} {v : Byte} {fl : FlagSet}
    (run : exec i s = runB i (fun u => (u.setLoc8 l v).setFlags fl) s) :
    exec i s = .next (((s.setLoc8 l v).setFlags fl).passB i) :=
  exec_eq_setFlags_after run (s.advanceR_setLoc8 l v) (s.setLoc8_cpuB_pc l v)

/-- The state after an accumulator operation is known from `A` and the six flags of it. -/
theorem exec_setAcc_reads {r : Byte × FlagSet}
    (run : exec i s = runB i (fun u => u.setAcc r) s) :
    ∃ t, exec i s = .next t ∧ t = ((s.setReg .a (t.reg .a)).setFlags t.flags).passB i ∧ t.reg .a = r.1 ∧
      t.flags = r.2 := by
  have flags : (((s.setReg .a r.1).setFlags r.2).passB i).flags = r.2 := State.flags_setFlags_passB _ _ _
  exact ⟨_, exec_eq_setAcc run, by rw [flags]; rfl, rfl, flags⟩

/-- The same for `HL`. -/
theorem exec_setHl_reads {r : Word × FlagSet}
    (run : exec i s = runB i (fun u => (u.setHl r.1).setFlags r.2) s) :
    ∃ t, exec i s = .next t ∧ t = ((s.setHl t.hl).setFlags t.flags).passB i ∧ t.hl = r.1 ∧ t.flags = r.2 := by
  have hl : (((s.setHl r.1).setFlags r.2).passB i).hl = r.1 := word_hi_lo r.1
  have flags : (((s.setHl r.1).setFlags r.2).passB i).flags = r.2 := State.flags_setFlags_passB _ _ _
  exact ⟨_, exec_eq_setFlags_after run (fun _ => rfl) rfl, by rw [hl, flags], hl, flags⟩

/-! ### ADD, ADC, SUB, SBC -/

/-- ADD A,s and ADC A,s: `A` and the flags after them as exact arithmetic (R372, R373). -/
theorem exec_setAcc_add8 {x : Byte} {c : Bool}
    (run : exec i s = runB i (fun u => u.setAcc (add8 (s.reg .a) x c)) s) :
    ∃ t, exec i s = .next t ∧ t = ((s.setReg .a (t.reg .a)).setFlags t.flags).passB i ∧
      t.flags.s = (t.reg .a).msb ∧ (t.flags.z = true ↔ t.reg .a = 0) ∧
      (t.reg .a).toNat + 256 * t.flags.c.toNat = (s.reg .a).toNat + x.toNat + c.toNat ∧
      (t.flags.h = true ↔ 16 ≤ (s.reg .a).toNat % 16 + x.toNat % 16 + c.toNat) ∧
      (t.flags.pv = true ↔ (t.reg .a).toInt ≠ (s.reg .a).toInt + x.toInt + c.toNat) ∧ t.flags.n = false := by
  obtain ⟨t, next, form, acc, flags⟩ := exec_setAcc_reads run
  refine ⟨t, next, form, ?_⟩
  rw [acc, flags]
  exact ⟨bit_seven _, beq_iff_eq, add8_sum _ _ _, add8_halfCarry _ _ _, add8_overflow _ _ _, rfl⟩

/-- SUB s and SBC A,s: `A` and the flags after them as exact arithmetic (R374, R375). -/
theorem exec_setAcc_sub8 {x : Byte} {c : Bool}
    (run : exec i s = runB i (fun u => u.setAcc (sub8 (s.reg .a) x c)) s) :
    ∃ t, exec i s = .next t ∧ t = ((s.setReg .a (t.reg .a)).setFlags t.flags).passB i ∧
      t.flags.s = (t.reg .a).msb ∧ (t.flags.z = true ↔ t.reg .a = 0) ∧
      ((t.reg .a).toNat : Int) - 256 * t.flags.c.toNat = ((s.reg .a).toNat : Int) - x.toNat - c.toNat ∧
      (t.flags.h = true ↔ (s.reg .a).toNat % 16 < x.toNat % 16 + c.toNat) ∧
      (t.flags.pv = true ↔ (t.reg .a).toInt ≠ (s.reg .a).toInt - x.toInt - c.toNat) ∧ t.flags.n = true := by
  obtain ⟨t, next, form, acc, flags⟩ := exec_setAcc_reads run
  refine ⟨t, next, form, ?_⟩
  rw [acc, flags]
  exact ⟨bit_seven _, beq_iff_eq, sub8_difference _ _ _, sub8_halfBorrow _ _ _, sub8_overflow _ _ _, rfl⟩

/-! ### Logic, increments, 16-bit sums -/

/-- AND, XOR and OR: `r` into `A` and the flags of `logic` (R376 to R378). -/
theorem exec_eq_logic8 {r : Byte} {h : Bool}
    (run : exec i s = runB i (fun u => u.setAcc (r, logic8 r h)) s) :
    exec i s = .next (((s.setReg .a r).setFlags
      { s := r.msb, z := r == 0, h := h, pv := decide ((List.range 8).countP r.getLsbD % 2 = 0), n := false,
        c := false }).passB i) := by
  rw [← logic8_eq]; exact exec_eq_setAcc run

theorem exec_bInc (l : Loc8) (s : State) :
    let r := inc8 (s.loc8 l) s.flags
    exec (.bInc l) s = .next (((s.setLoc8 l r.1).setFlags r.2).passB (.bInc l)) :=
  exec_eq_setLoc8_setFlags (exec_eq_runB rfl)

theorem exec_bDec (l : Loc8) (s : State) :
    let r := dec8 (s.loc8 l) s.flags
    exec (.bDec l) s = .next (((s.setLoc8 l r.1).setFlags r.2).passB (.bDec l)) :=
  exec_eq_setLoc8_setFlags (exec_eq_runB rfl)

/-- ADD HL,ss and ADD XY,pp, `set` being the write of the destination: S, Z and PV are kept (R390, R393). -/
theorem exec_eq_add16 {set : Word → State} {a w : Word}
    (next : exec i s = .next (((set (add16 a w s.flags).1).setFlags (add16 a w s.flags).2).passB i)) :
    ∃ (t : State) (r : Word), exec i s = .next t ∧
      t = ((set r).setFlags { s.flags with h := t.flags.h, n := false, c := t.flags.c }).passB i ∧
      r.toNat + 65536 * t.flags.c.toNat = a.toNat + w.toNat ∧
      (t.flags.h = true ↔ 4096 ≤ a.toNat % 4096 + w.toNat % 4096) := by
  refine ⟨_, (add16 a w s.flags).1, next, ?_⟩
  rw [State.flags_setFlags_passB]
  exact ⟨rfl, add16_sum _ _ _, add16_halfCarry _ _ _⟩

end

theorem exec_bAddHl (p : Pair) (s : State) :
    let r := add16 s.hl (s.pair p) s.flags
    exec (.bAddHl p) s = .next (((s.setHl r.1).setFlags r.2).passB (.bAddHl p)) :=
  exec_eq_setFlags_after (f := fun u => u.setHl _) (exec_eq_runB rfl) (fun _ => rfl) rfl

theorem exec_bAddXy (i : Index) (k : IndexPair) (s : State) :
    let r := add16 (s.index i) (s.indexPair i k) s.flags
    exec (.bAddXy i k) s = .next (((s.setIndex i r.1).setFlags r.2).passB (.bAddXy i k)) :=
  exec_eq_setFlags_after (f := fun u => u.setIndex i _) (exec_eq_runB rfl) (s.advanceR_setIndex i _)
    (s.setIndex_cpuB_pc i _)

end Machine

end Sys2Proof

namespace Sys2Proof.Proofs

open Sys2Proof.Machine

/-- Settles O39: the laws of `add8` and `sub8`, with the carry flag or without it. -/
theorem addAndSubtractOfCpuB : Obligations.AddAndSubtractOfCpuB := by
  intro m s x a done added subtracted
  refine ⟨?add, ?adc, ?sub, ?sbc⟩
  case add => exact exec_setAcc_add8 (c := false) (exec_eq_runB rfl)
  case adc => exact exec_setAcc_add8 (c := s.flags.c) (exec_eq_runB rfl)
  case sub => exact exec_setAcc_sub8 (c := false) (exec_eq_runB rfl)
  case sbc => exact exec_setAcc_sub8 (c := s.flags.c) (exec_eq_runB rfl)

/-- Settles O44: the laws of `add16`, `adc16` and `sbc16`; an increment is one `setPair` or `setIndex`. -/
theorem wordArithmeticOfCpuB : Obligations.WordArithmeticOfCpuB := by
  intro p i k s f sum a w c
  refine ⟨exec_eq_add16 (exec_bAddHl p s), exec_eq_add16 (exec_bAddXy i k s), ?adcHl, ?sbcHl,
    exec_eq_setPair (exec_eq_runB rfl), exec_eq_setPair (exec_eq_runB rfl), exec_eq_setIndex (exec_eq_runB rfl),
    exec_eq_setIndex (exec_eq_runB rfl)⟩
  case adcHl =>
    obtain ⟨t, next, form, hl, flags⟩ := exec_setHl_reads (i := .bAdcHl p) (r := adc16 a w f.c) (exec_eq_runB rfl)
    refine ⟨t, next, form, ?_⟩
    rw [hl, flags]
    exact ⟨adc16_sum _ _ _, getLsbD_fifteen _, beq_iff_eq, adc16_halfCarry _ _ _, adc16_overflow _ _ _, rfl⟩
  case sbcHl =>
    obtain ⟨t, next, form, hl, flags⟩ := exec_setHl_reads (i := .bSbcHl p) (r := sbc16 a w f.c) (exec_eq_runB rfl)
    refine ⟨t, next, form, ?_⟩
    rw [hl, flags]
    exact ⟨sbc16_difference _ _ _, getLsbD_fifteen _, beq_iff_eq, sbc16_halfBorrow _ _ _, sbc16_overflow _ _ _, rfl⟩

/-- Settles O40: CP and SUB set the flags of one `sub8`. -/
theorem logicAndCompareOfCpuB : Obligations.LogicAndCompareOfCpuB := by
  intro m s x a logic
  refine ⟨exec_eq_logic8 (exec_eq_runB rfl), exec_eq_logic8 (exec_eq_runB rfl), exec_eq_logic8 (exec_eq_runB rfl), _, _,
    exec_eq_setFlags (fl := (sub8 a x false).2) (exec_eq_runB rfl),
    exec_eq_setAcc (r := sub8 a x false) (exec_eq_runB rfl), ?_⟩
  rw [State.flags_setFlags_passB, State.flags_setFlags_passB]
  exact ⟨rfl, sub8_zero a x, sub8_borrow a x false⟩

/-- Settles O41: `inc8` and `dec8` with their flags read from the operand. -/
theorem incrementsOfCpuB : Obligations.IncrementsOfCpuB := by
  intro l s x
  exact ⟨by rw [exec_bInc, inc8_eq], by rw [exec_bDec, dec8_eq]⟩

end Sys2Proof.Proofs
end

section
/-! PROOF. CPU-B's operations on `A` and the flags (44_cpub_arith_logic.md R382 to R386): the correction of DAA as a
number, and why it makes ADD and SUB decimal. -/

namespace Sys2Proof

/-- `a XOR 0xFF` as a number (R383). -/
theorem xor_ff_eq_ofNat (a : Byte) : a ^^^ 0xFF = BitVec.ofNat 8 (255 - a.toNat) :=
  BitVec.eq_of_toNat_eq (by rw [xor_ff_toNat, BitVec.toNat_ofNat, Nat.mod_eq_of_lt (by omega)])

/-- Two packed decimal digits (R382). -/
def packed (n : Nat) : Byte := BitVec.ofNat 8 (16 * (n / 10) + n % 10)

theorem packed_toNat {n : Nat} (two : n < 100) : (packed n).toNat = 16 * (n / 10) + n % 10 := by
  rw [packed, BitVec.toNat_ofNat, Nat.mod_eq_of_lt (by omega)]

namespace Machine

/-! ### DAA -/

/-- What DAA adds or subtracts: 6 for the low digit and 0x60 for the high one (R382). -/
def daaCorrection (a : Byte) (fl : FlagSet) : Int :=
  (if fl.h = true ∨ 9 < a.toNat % 16 then 6 else 0) + (if fl.c = true ∨ 0x99 < a.toNat then 0x60 else 0)

theorem daa8_result (a : Byte) (fl : FlagSet) :
    (daa8 a fl).1 = BitVec.ofInt 8
      (if fl.n then (a.toNat : Int) - daaCorrection a fl else a.toNat + daaCorrection a fl) := by
  have corr : ((if fl.h || decide (9 < a.toNat % 16) then 0x06 else 0) |||
      (if fl.c || decide (0x99 < a.toNat) then 0x60 else 0) : Byte) = BitVec.ofInt 8 (daaCorrection a fl) := by
    simp only [daaCorrection, Bool.or_eq_true, decide_eq_true_iff]
    split_ifs <;> rfl
  have result : (daa8 a fl).1 = if fl.n then a - BitVec.ofInt 8 (daaCorrection a fl)
      else a + BitVec.ofInt 8 (daaCorrection a fl) := by
    rw [← corr]; rfl
  rw [result]
  cases fl.n with
  | true => simp [Int.sub_eq_add_neg, BitVec.ofInt_add, BitVec.ofInt_neg, BitVec.sub_eq_add_neg]
  | false => simp [BitVec.ofInt_add]

theorem daa8_carry (a : Byte) (fl : FlagSet) : (daa8 a fl).2.c = (fl.c || decide (0x99 < a.toNat)) := rfl

theorem daa8_flags (a : Byte) (fl : FlagSet) :
    (daa8 a fl).2 =
      { s := (daa8 a fl).1.msb, z := (daa8 a fl).1 == 0,
        pv := decide ((List.range 8).countP (daa8 a fl).1.getLsbD % 2 = 0), n := fl.n,
        h := if fl.n then fl.h && decide (a.toNat % 16 < 6) else decide (9 < a.toNat % 16),
        c := fl.c || decide (0x99 < a.toNat) } := by
  have szp : (daa8 a fl).2 = { fl.szp (daa8 a fl).1 with
      h := if fl.n then fl.h && decide (a.toNat % 16 < 6) else decide (9 < a.toNat % 16)
      c := fl.c || decide (0x99 < a.toNat) } := rfl
  rw [szp, FlagSet.szp_eq]

/-- After a sum of packed decimal bytes, DAA corrects the low digit when the low digits make 10 or more and the high
one when the sum is 100 or more. -/
theorem daa8_add8_packed {x y : Nat} (hx : x < 100) (hy : y < 100) :
    let r := add8 (packed x) (packed y) false
    (daa8 r.1 r.2).1 = packed ((x + y) % 100) ∧ ((daa8 r.1 r.2).2.c = true ↔ 100 ≤ x + y) := by
  intro r
  have sum : r.1.toNat + 256 * r.2.c.toNat = _ := add8_sum (packed x) (packed y) false
  have half : r.2.h = true ↔ _ := add8_halfCarry (packed x) (packed y) false
  rw [packed_toNat hx, packed_toNat hy, Bool.toNat_false] at sum half
  have low : (r.2.h = true ∨ 9 < r.1.toNat % 16) ↔ 10 ≤ x % 10 + y % 10 := by rw [half]; omega
  have high : (r.2.c = true ∨ 0x99 < r.1.toNat) ↔ 100 ≤ x + y := by rw [← Bool.toNat_eq_one]; omega
  constructor
  · rw [daa8_result, daaCorrection, if_neg (show ¬ r.2.n = true from Bool.false_ne_true), packed]
    simp only [low, high]
    apply BitVec.eq_of_toNat_eq
    rw [BitVec.toNat_ofInt, BitVec.toNat_ofNat]
    split_ifs <;> omega
  · rw [daa8_carry, Bool.or_eq_true, decide_eq_true_iff, high]

/-- After a difference of packed decimal bytes, DAA corrects each digit that was borrowed from. -/
theorem daa8_sub8_packed {x y : Nat} (hx : x < 100) (hy : y < 100) :
    let r := sub8 (packed x) (packed y) false
    (daa8 r.1 r.2).1 = packed ((100 + x - y) % 100) ∧ ((daa8 r.1 r.2).2.c = true ↔ x < y) := by
  intro r
  have difference : (r.1.toNat : Int) - 256 * r.2.c.toNat = _ := sub8_difference (packed x) (packed y) false
  have half : r.2.h = true ↔ _ := sub8_halfBorrow (packed x) (packed y) false
  rw [packed_toNat hx, packed_toNat hy, Bool.toNat_false] at difference half
  have borrow : r.2.c = true ↔ x < y := by
    rw [show r.2.c = true ↔ _ from sub8_borrow _ _ _, packed_toNat hx, packed_toNat hy, Bool.toNat_false]; omega
  have low : (r.2.h = true ∨ 9 < r.1.toNat % 16) ↔ x % 10 < y % 10 := by rw [half]; omega
  have valid : ¬ x < y → r.1.toNat ≤ 0x99 := by
    intro more
    rw [Bool.eq_false_iff.mpr (mt borrow.mp more), Bool.toNat_false] at difference
    omega
  have high : (r.2.c = true ∨ 0x99 < r.1.toNat) ↔ x < y := by rw [borrow]; omega
  constructor
  · rw [daa8_result, daaCorrection, if_pos (show r.2.n = true from rfl), packed]
    simp only [low, high]
    apply BitVec.eq_of_toNat_eq
    rw [BitVec.toNat_ofInt, BitVec.toNat_ofNat]
    split_ifs <;> omega
  · rw [daa8_carry, Bool.or_eq_true, decide_eq_true_iff, high]

/-- DAA right after an accumulator operation. -/
theorem exec_setAcc_then_bDaa {i : Instr} {s : State} {r : Byte × FlagSet}
    (run : exec i s = runB i (fun u => u.setAcc r) s) :
    ∃ t u, exec i s = .next t ∧ exec .bDaa t = .next u ∧ u.reg .a = (daa8 r.1 r.2).1 ∧
      u.flags = (daa8 r.1 r.2).2 := by
  obtain ⟨t, next, _, acc, flags⟩ := exec_setAcc_reads run
  obtain ⟨u, next', _, acc', flags'⟩ := exec_setAcc_reads (i := .bDaa) (s := t) (r := daa8 (t.reg .a) t.flags)
    (exec_eq_runB rfl)
  rw [acc, flags] at acc' flags'
  exact ⟨t, u, next, next', acc', flags'⟩

/-! ### NEG -/

/-- NEG is 0 minus `A`, its flags read from `A` (R384). -/
theorem sub8_zero_left (a : Byte) :
    sub8 0 a false = (-a,
      { s := (-a).msb, z := a == 0, h := decide (a.toNat % 16 ≠ 0), pv := a == 0x80, n := true,
        c := a != 0 }) := by
  have result : (sub8 0 a false).1 = -a := (sub8_result 0 a).trans (BitVec.zero_sub a)
  have zero : (sub8 0 a false).2.z = (a == 0) := by
    rw [Bool.eq_iff_iff, sub8_zero, beq_iff_eq, eq_comm]
  have half : (sub8 0 a false).2.h = decide (a.toNat % 16 ≠ 0) := by
    rw [Bool.eq_iff_iff, sub8_halfBorrow, decide_eq_true_iff]; exact Nat.pos_iff_ne_zero
  have borrow : (sub8 0 a false).2.c = (a != 0) := by
    rw [Bool.eq_iff_iff, sub8_borrow, bne_iff_ne, ← BitVec.toNat_ne_iff_ne]; exact Nat.pos_iff_ne_zero
  have overflow : (sub8 0 a false).2.pv = (a == 0x80) := by
    have signed : (-a).toInt = if a = 0x80 then a.toInt else -a.toInt := BitVec.toInt_neg_eq_ite
    rw [Bool.eq_iff_iff, sub8_overflow, beq_iff_eq, result, signed]
    by_cases least : a = 0x80
    · rw [if_pos least, least]; decide
    · rw [if_neg least]; exact iff_of_false (by simp) least
  have sign : (sub8 0 a false).2.s = (-a).msb := (bit_seven _).trans (congrArg BitVec.msb result)
  rw [← zero, ← half, ← overflow, ← borrow, ← sign, ← result]; rfl

theorem exec_bDaa (s : State) :
    let r := daa8 (s.reg .a) s.flags
    exec .bDaa s = .next (((s.setReg .a r.1).setFlags r.2).passB .bDaa) := exec_eq_setAcc (exec_eq_runB rfl)

theorem exec_bCpl (s : State) :
    exec .bCpl s = .next (((s.setReg .a (s.reg .a ^^^ 0xFF)).setFlags { s.flags with h := true, n := true }).passB
      .bCpl) :=
  exec_eq_setAcc (r := (s.reg .a ^^^ 0xFF, _)) (exec_eq_runB rfl)

theorem exec_bNeg (s : State) :
    let r := sub8 0 (s.reg .a) false
    exec .bNeg s = .next (((s.setReg .a r.1).setFlags r.2).passB .bNeg) := exec_eq_setAcc (exec_eq_runB rfl)

end Machine

end Sys2Proof

namespace Sys2Proof.Proofs

open Sys2Proof.Machine

/-- Settles O42: DAA after `add8` and after `sub8` of packed decimal bytes. -/
theorem decimalAdjustIsDecimalArithmetic : Obligations.DecimalAdjustIsDecimalArithmetic := by
  intro x y s bcd ha hb
  have sum := daa8_add8_packed x.isLt y.isLt
  have difference := daa8_sub8_packed x.isLt y.isLt
  have acc : s.reg .a = packed x.val := ha
  have operand : s.src8 (.reg .b) = packed y.val := hb
  constructor
  · obtain ⟨t, u, add, daa, result, flags⟩ :=
      exec_setAcc_then_bDaa (i := .bAdd (.reg .b)) (r := add8 (s.reg .a) (s.src8 (.reg .b)) false)
        (exec_eq_runB rfl)
    rw [acc, operand] at result flags
    exact ⟨t, u, add, daa, result.trans sum.1, flags ▸ sum.2⟩
  · obtain ⟨t, u, sub, daa, result, flags⟩ :=
      exec_setAcc_then_bDaa (i := .bSub (.reg .b)) (r := sub8 (s.reg .a) (s.src8 (.reg .b)) false)
        (exec_eq_runB rfl)
    rw [acc, operand] at result flags
    exact ⟨t, u, sub, daa, result.trans difference.1, flags ▸ difference.2⟩

/-- Settles O43: each operation is one result in `A` with its six flags, or the flags alone. -/
theorem accumulatorAndFlagOperationsOfCpuB : Obligations.AccumulatorAndFlagOperationsOfCpuB := by
  intro s a f corr r
  have corrected : (daa8 a f).1 = r := daa8_result a f
  refine ⟨?daa, ?cpl, ?neg, exec_eq_setFlags (exec_eq_runB rfl), exec_eq_setFlags (exec_eq_runB rfl)⟩
  case daa => rw [exec_bDaa, daa8_flags, corrected]
  case cpl => rw [exec_bCpl, xor_ff_eq_ofNat]
  case neg => rw [exec_bNeg, sub8_zero_left]

end Sys2Proof.Proofs
end

section
/-! PROOF. CPU-B's rotates, shifts and bit operations (44_cpub_arith_logic.md R400 to R416): the two shifts as exact
arithmetic on numbers, the digits of a byte, and one bit of a byte replaced. -/

namespace Sys2Proof

theorem bit_seven_toNat (v : Byte) : (bit v 7).toNat = v.toNat / 128 :=
  (Nat.toNat_testBit v.toNat 7).trans (Nat.mod_eq_of_lt (by omega))

/-! ### Digits -/

theorem shiftLeft_four_toNat (v : Byte) : (v <<< 4).toNat = 16 * (v.toNat % 16) := by
  rw [BitVec.toNat_shiftLeft, Nat.shiftLeft_eq]; omega

theorem ushiftRight_four_toNat (v : Byte) : (v >>> 4).toNat = v.toNat / 16 := by
  rw [BitVec.toNat_ushiftRight, Nat.shiftRight_eq_div_pow]

theorem and_F0_toNat (v : Byte) : (v &&& 0xF0).toNat = 16 * (v.toNat / 16) := by
  have mask : (0xF0 : Byte) = BitVec.allOnes 8 <<< 4 := by decide
  rw [mask, ← BitVec.shiftLeft_ushiftRight, shiftLeft_four_toNat, ushiftRight_four_toNat, Nat.mod_eq_of_lt (by omega)]

/-- A byte put together from a high digit `h` and a low digit `l`. -/
theorem or_eq_ofNat_digits {x y : Byte} {h l : Nat} (high : x.toNat = 16 * h) (low : y.toNat = l) (digit : l < 16) :
    x ||| y = BitVec.ofNat 8 (h * 16 + l) := by
  apply BitVec.eq_of_toNat_eq
  rw [BitVec.toNat_or, high, low, BitVec.toNat_ofNat, ← Nat.two_pow_add_eq_or_of_lt (i := 4) digit,
    Nat.mod_eq_of_lt (by omega), Nat.mul_comm]

/-! ### One bit -/

/-- The byte 1 shifted to bit `b` has no other bit. -/
theorem one_shiftLeft_getLsbD (b k : Fin 8) : (1#8 <<< b.val).getLsbD k.val = decide (k = b) := by
  rw [← BitVec.twoPow_eq, BitVec.getLsbD_twoPow, decide_eq_true b.isLt, Bool.true_and, decide_eq_decide, Fin.ext_iff,
    eq_comm]

namespace Machine

/-- The flags of BIT (R414; S and PV by D24). -/
theorem FlagSet.bitTest_eq (fl : FlagSet) (v : Byte) (b : Fin 8) :
    fl.bitTest v b =
      { s := decide (b = 7) && v.getLsbD 7, z := !v.getLsbD b.val, h := true, pv := !v.getLsbD b.val, n := false,
        c := fl.c } := by
  have seven : decide (b.val = 7) = decide (b = 7) := decide_eq_decide.mpr (Fin.ext_iff (b := 7)).symm
  rw [bitTest, seven]; rfl

/-! ### RLD and RRD -/

/-- The flags of RLD and RRD do not depend on the byte written to memory (R412, R413). -/
theorem State.setDigits_write (s : State) (p : Word) (m a : Byte) :
    (s.write p m).setDigits a = ((s.write p m).setReg .a a).setFlags
      { s := a.msb, z := a == 0, h := false, pv := decide ((List.range 8).countP a.getLsbD % 2 = 0), n := false,
        c := s.flags.c } := by
  rw [setDigits, write_flags, FlagSet.szp_eq]

section
variable {i : Instr} {s : State}

/-- RLD and RRD: a byte into memory, `A` and the flags (R412, R413). -/
theorem exec_eq_setDigits {p : Word} {m a : Byte}
    (run : exec i s = runB i (fun u => (u.write p m).setDigits a) s) :
    exec i s = .next ((((s.write p m).setReg .a a).setFlags
      { s := a.msb, z := a == 0, h := false, pv := decide ((List.range 8).countP a.getLsbD % 2 = 0), n := false,
        c := s.flags.c }).passB i) := by
  have aside (n : Nat) : ((s.write p m).setDigits a).advanceR n = ((s.advanceR n).write p m).setDigits a := by
    rw [← State.advanceR_write]; rfl
  have pc : (s.write p m).cpuB.pc = s.cpuB.pc := congrArg CpuB.pc (s.write_cpuB p m)
  rw [← State.setDigits_write]
  exact exec_eq_passB_of_advanceR run aside pc

/-! ### Rotates and shifts -/

/-- An accumulator rotate (R400 to R403). -/
theorem exec_eq_rotateAcc {r : Shifted}
    (run : exec i s = runB i (fun u => u.rotateAcc r) s) :
    exec i s = .next (((s.setReg .a r.1).setFlags { s.flags with h := false, n := false, c := r.2 }).passB i) :=
  exec_eq_setAcc (r := (r.1, s.flags.rotatedA r.2)) (exec_eq_runB run)

/-- A CB rotate or shift (R404). -/
theorem exec_eq_shiftLoc {l : Loc8} {r : Shifted}
    (run : exec i s = runB i (fun u => (u.setLoc8 l r.1).setFlags (s.flags.shifted r)) s) :
    exec i s = .next (((s.setLoc8 l r.1).setFlags
      { s := r.1.msb, z := r.1 == 0, h := false, pv := decide ((List.range 8).countP r.1.getLsbD % 2 = 0), n := false,
        c := r.2 }).passB i) := by
  rw [FlagSet.shifted, FlagSet.szp_eq] at run
  exact exec_eq_setLoc8_setFlags run

end

end Machine

end Sys2Proof

namespace Sys2Proof.Proofs

open Sys2Proof.Machine

/-- Settles O46: each instruction is a shift left or right, with 0, the carry or a bit of the operand shifted in. -/
theorem shiftsOfCpuB : Obligations.ShiftsOfCpuB := by
  intro l s v c done
  refine ⟨?rlc, ?rrc, ?rl, ?rr, ?sla, ?sra, ?srl⟩
  case rlc => exact ⟨_, _, _, exec_eq_shiftLoc (exec_eq_runB rfl), rfl, shiftLeft_toNat _ (bit (s.loc8 l) 7)⟩
  case rrc => exact ⟨_, _, _, exec_eq_shiftLoc (exec_eq_runB rfl), rfl, shiftRight_toNat _ (bit (s.loc8 l) 0)⟩
  case rl => exact ⟨_, _, _, exec_eq_shiftLoc (exec_eq_runB rfl), rfl, shiftLeft_toNat _ s.flags.c⟩
  case rr => exact ⟨_, _, _, exec_eq_shiftLoc (exec_eq_runB rfl), rfl, shiftRight_toNat _ s.flags.c⟩
  case sla => exact ⟨_, _, _, exec_eq_shiftLoc (exec_eq_runB rfl), rfl, shiftLeft_toNat _ false⟩
  case sra =>
    have law := shiftRight_toNat (s.loc8 l) (bit (s.loc8 l) 7)
    exact ⟨_, _, _, exec_eq_shiftLoc (exec_eq_runB rfl), rfl, by rwa [bit_seven_toNat] at law⟩
  case srl => exact ⟨_, _, _, exec_eq_shiftLoc (exec_eq_runB rfl), rfl, shiftRight_toNat _ false⟩

/-- Settles O45: each rotate is a shift of `A` left or right, with the carry or the bit shifted out shifted in. -/
theorem accumulatorRotatesOfCpuB : Obligations.AccumulatorRotatesOfCpuB := by
  intro s v c done
  refine ⟨?rlca, ?rla, ?rrca, ?rra⟩
  case rlca => exact ⟨_, _, _, exec_eq_rotateAcc (exec_eq_runB rfl), rfl, shiftLeft_toNat _ (bit (s.reg .a) 7)⟩
  case rla => exact ⟨_, _, _, exec_eq_rotateAcc (exec_eq_runB rfl), rfl, shiftLeft_toNat _ s.flags.c⟩
  case rrca => exact ⟨_, _, _, exec_eq_rotateAcc (exec_eq_runB rfl), rfl, shiftRight_toNat _ (bit (s.reg .a) 0)⟩
  case rra => exact ⟨_, _, _, exec_eq_rotateAcc (exec_eq_runB rfl), rfl, shiftRight_toNat _ s.flags.c⟩

/-- Settles O47: the two bytes put together from digits. -/
theorem digitRotatesOfCpuB : Obligations.DigitRotatesOfCpuB := by
  intro s a m done
  have low : m % 16 < 16 ∧ a % 16 < 16 ∧ m / 16 < 16 := by omega
  obtain ⟨m_low, a_low, m_high⟩ := low
  constructor
  · have mem : (s.read s.hl <<< 4) ||| (s.reg .a &&& 0x0F) = BitVec.ofNat 8 (m % 16 * 16 + a % 16) :=
      or_eq_ofNat_digits (shiftLeft_four_toNat _) (and_0F_toNat _) a_low
    have acc : (s.reg .a &&& 0xF0) ||| (s.read s.hl >>> 4) = BitVec.ofNat 8 (a / 16 * 16 + m / 16) :=
      or_eq_ofNat_digits (and_F0_toNat _) (ushiftRight_four_toNat _) m_high
    simp only [done, ← mem, ← acc]
    exact exec_eq_setDigits (exec_eq_runB rfl)
  · have mem : ((s.reg .a &&& 0x0F) <<< 4) ||| (s.read s.hl >>> 4) = BitVec.ofNat 8 (a % 16 * 16 + m / 16) :=
      or_eq_ofNat_digits (by rw [shiftLeft_four_toNat, and_0F_toNat, Nat.mod_mod]) (ushiftRight_four_toNat _) m_high
    have acc : (s.reg .a &&& 0xF0) ||| (s.read s.hl &&& 0x0F) = BitVec.ofNat 8 (a / 16 * 16 + m % 16) :=
      or_eq_ofNat_digits (and_F0_toNat _) (and_0F_toNat _) m_low
    simp only [done, ← mem, ← acc]
    exact exec_eq_setDigits (exec_eq_runB rfl)

/-- Settles O48: SET and RES replace the bit of a mask that has no other bit. -/
theorem bitOperationsOfCpuB : Obligations.BitOperationsOfCpuB := by
  intro b l s v
  refine ⟨?bit, ⟨s.loc8 l ||| (1#8 <<< b.val), exec_eq_setLoc8 (exec_eq_runB rfl), fun k => ?set⟩,
    s.loc8 l &&& ~~~(1#8 <<< b.val), exec_eq_setLoc8 (exec_eq_runB rfl), fun k => ?res⟩
  case bit => rw [← FlagSet.bitTest_eq]; exact exec_eq_setFlags (exec_eq_runB rfl)
  case set => rw [BitVec.getLsbD_or, one_shiftLeft_getLsbD, Bool.or_comm]
  case res =>
    rw [BitVec.getLsbD_and, BitVec.getLsbD_not, one_shiftLeft_getLsbD, Bool.and_comm, decide_eq_true k.isLt,
      Bool.true_and]

end Sys2Proof.Proofs
end

section
/-! PROOF. CPU-B's jumps, calls, returns, port instructions, CPU control and unknown forms (45_cpub_control_io.md R450 to
R520): how an instruction that assigns `PC` ends, and the port operations beside the advance of `R`. -/

namespace Sys2Proof

/-- The target of a relative jump, taken or not, as a number: the address after it plus the signed offset, modulo 65536
(R453, R454, R457). -/
theorem relativeTarget_eq_ofInt (w : Word) (e : Byte) (taken : Bool) :
    (if taken then w + 2 + sext16 e else w + 2) =
      BitVec.ofInt 16 ((w.toNat : Int) + 2 + (if taken then e.toInt else 0)) := by
  cases taken with
  | true => exact add_sext16_eq_ofInt w 2 e
  | false => exact (BitVec.add_zero _).symm.trans (add_sext16_eq_ofInt w 2 0)

/-- A search by key finds the first entry of that key. -/
theorem find?_key_eq_first {β : Type} {k : Nat} {before : List (Nat × β)} (others : ∀ e ∈ before, e.1 ≠ k) (answer : β)
    (after : List (Nat × β)) :
    (before ++ (k, answer) :: after).find? (fun e => e.1 == k) = some (k, answer) := by
  have none_before : before.find? (fun e => e.1 == k) = none := by simpa using others
  rw [List.find?_append, none_before, Option.none_or]
  exact List.find?_cons_of_pos (beq_self_eq_true k)

namespace Machine

/-! ### The end of a jump of CPU-B -/

section
variable {i : Instr} {s t : State} {v taken : Bool} {w : Word} {f : State → State}

/-- An instruction of CPU-B that assigns `PC` and whose body leaves `t`, the advance of `R` aside. -/
theorem exec_eq_goB_of_jumpB (run : exec i s = jumpB i v (fun _ => t.advanceR i.fetches) w s := by exact rfl) :
    exec i s = .next (t.goB i v w) :=
  run

/-- The same for a body `f` that the advance of `R` does not disturb. -/
theorem exec_eq_goB_of_advanceR (run : exec i s = jumpB i v f w s)
    (aside : ∀ n, (f s).advanceR n = f (s.advanceR n)) : exec i s = .next ((f s).goB i v w) :=
  exec_eq_goB_of_jumpB (by rw [run, jumpB, ← aside]; rfl)

/-- A conditional call or return: where the condition does not hold it passes by (R461, R463). -/
theorem exec_eq_conditional (run : exec i s = if taken then jumpB i true f w s else runB i id s)
    (aside : ∀ n, (f s).advanceR n = f (s.advanceR n)) :
    exec i s = .next (if taken then (f s).goB i true w else s.passB i) := by
  cases taken with
  | true => exact exec_eq_goB_of_advanceR run aside
  | false => exact exec_eq_passB run

/-- A repeating port instruction tests the decremented `B` (R483, R489). -/
theorem exec_eq_blockIo_repeat {b : Byte} (run : exec i s = repeatB i f State.moreIo s)
    (aside : ∀ n, (f s).advanceR n = f (s.advanceR n)) (counter : (f s).reg .b = b) :
    exec i s = .next ((f s).goB i (b != 0)
      (if b != 0 then s.cpuB.pc else s.cpuB.pc + BitVec.ofNat 16 i.length)) :=
  exec_eq_goB (by rw [run, aside]; rfl) (congrArg (· != 0) counter)

end

/-! ### Calls -/

theorem exec_eq_push16B_goB {i : Instr} {s : State} {ret w : Word}
    (run : exec i s = jumpB i false (fun u => u.push16B ret) w s := by exact rfl) :
    exec i s = .next ((s.push16B ret).goB i false w) :=
  exec_eq_goB_of_advanceR run (s.advanceR_push16B ret)

theorem exec_bCallCc (cc : Cond) (nn : Word) (s : State) :
    exec (.bCallCc cc nn) s =
      .next (if s.cond cc then (s.push16B (s.cpuB.pc + 3)).goB (.bCallCc cc nn) true nn
        else s.passB (.bCallCc cc nn)) :=
  exec_eq_conditional (f := fun u => u.push16B (s.cpuB.pc + 3)) rfl (s.advanceR_push16B _)

theorem exec_bRetCc (cc : Cond) (s : State) :
    exec (.bRetCc cc) s =
      .next (if s.cond cc then s.pop16B.goB (.bRetCc cc) true s.popped16B else s.passB (.bRetCc cc)) :=
  exec_eq_conditional rfl fun _ => rfl

/-! ### Ports -/

/-- A port that `IO_READ` lists answers what its first entry says (R85, log entry 6). -/
theorem ioRead_first {p : Params} {port : Word} {before after : List (Nat × Byte)} {answer : Byte}
    (listed : p.ioRead = before ++ (port.toNat, answer) :: after) (others : ∀ e ∈ before, e.1 ≠ port.toNat) :
    ioRead p port = answer := by
  rw [ioRead, listed, find?_key_eq_first others]

/-- A port write changes `AYSEL` and the register file and nothing else (R84, R534). -/
theorem State.ioWrite_eq (s : State) (port : Word) (v : Byte) :
    s.ioWrite port v = { s with aySel := (s.ioWrite port v).aySel, shadow := (s.ioWrite port v).shadow } := by
  unfold State.ioWrite State.ayWrite
  repeat' split
  all_goals rfl

/-- `R` has no part in a port write. -/
theorem State.advanceR_ioWrite (s : State) (port : Word) (v : Byte) (n : Nat) :
    (s.ioWrite port v).advanceR n = (s.advanceR n).ioWrite port v := by
  have sel : (s.advanceR n).aySel = s.aySel := rfl
  unfold State.ioWrite State.ayWrite
  rw [advanceR_params, sel]
  repeat' split
  all_goals rfl

theorem exec_eq_ioWrite {i : Instr} {s : State} {port : Word} {v : Byte}
    (run : exec i s = runB i (fun u => u.ioWrite port v) s := by exact rfl) :
    exec i s = .next ((s.ioWrite port v).passB i) :=
  exec_eq_passB_of_advanceR run (s.advanceR_ioWrite port v) (congrArg CpuB.pc (s.ioWrite_cpuB port v))

/-- IN r,(C) sets the flags of the byte read (R481). -/
theorem exec_bInRC (r : Reg8) (s : State) :
    exec (.bInRC r) s = .next (((s.setReg r (ioRead s.params s.bc)).setFlags
      { s.flags.szp (ioRead s.params s.bc) with h := false, n := false }).passB (.bInRC r)) :=
  exec_eq_setLoc8_setFlags (l := .reg r) (exec_eq_runB rfl)

/-! ### Block input and block output -/

theorem State.advanceR_blockIn (s : State) (step : Word) (n : Nat) :
    (s.blockIn step).advanceR n = (s.advanceR n).blockIn step := by
  have input : (s.advanceR n).write (s.advanceR n).hl (ioRead (s.advanceR n).params (s.advanceR n).bc) =
      (s.write s.hl (ioRead s.params s.bc)).advanceR n := (s.advanceR_write _ _ n).symm
  rw [blockIn, blockIn, input]; rfl

theorem State.advanceR_blockOut (s : State) (step : Word) (n : Nat) :
    (s.blockOut step).advanceR n = (s.advanceR n).blockOut step := by
  have output : (s.advanceR n).ioWrite (word ((s.advanceR n).reg .b - 1) ((s.advanceR n).reg .c))
        ((s.advanceR n).read (s.advanceR n).hl) =
      (s.ioWrite (word (s.reg .b - 1) (s.reg .c)) (s.read s.hl)).advanceR n := (s.advanceR_ioWrite _ _ n).symm
  rw [blockOut, blockOut, output]; rfl

@[simp] theorem State.blockIn_cpuB_pc (s : State) (step : Word) : (s.blockIn step).cpuB.pc = s.cpuB.pc := by
  have pc : (s.blockIn step).cpuB.pc = (s.write s.hl (ioRead s.params s.bc)).cpuB.pc := rfl
  rw [pc, write_cpuB]

@[simp] theorem State.blockOut_cpuB_pc (s : State) (step : Word) : (s.blockOut step).cpuB.pc = s.cpuB.pc := by
  have pc : (s.blockOut step).cpuB.pc =
      (s.ioWrite (word (s.reg .b - 1) (s.reg .c)) (s.read s.hl)).cpuB.pc := rfl
  rw [pc, ioWrite_cpuB]

section
variable {i : Instr} {s : State} {step : Word}

theorem exec_eq_blockIn (run : exec i s = runB i (fun u => u.blockIn step) s := by exact rfl) :
    exec i s = .next ((s.blockIn step).passB i) :=
  exec_eq_passB_of_advanceR run (s.advanceR_blockIn step) (s.blockIn_cpuB_pc step)

theorem exec_eq_blockOut (run : exec i s = runB i (fun u => u.blockOut step) s := by exact rfl) :
    exec i s = .next ((s.blockOut step).passB i) :=
  exec_eq_passB_of_advanceR run (s.advanceR_blockOut step) (s.blockOut_cpuB_pc step)

theorem exec_eq_blockIn_repeat
    (run : exec i s = repeatB i (fun u => u.blockIn step) State.moreIo s := by exact rfl) :
    exec i s = .next ((s.blockIn step).goB i (s.reg .b - 1 != 0)
      (if s.reg .b - 1 != 0 then s.cpuB.pc else s.cpuB.pc + BitVec.ofNat 16 i.length)) :=
  exec_eq_blockIo_repeat run (s.advanceR_blockIn step) rfl

theorem exec_eq_blockOut_repeat
    (run : exec i s = repeatB i (fun u => u.blockOut step) State.moreIo s := by exact rfl) :
    exec i s = .next ((s.blockOut step).goB i (s.reg .b - 1 != 0)
      (if s.reg .b - 1 != 0 then s.cpuB.pc else s.cpuB.pc + BitVec.ofNat 16 i.length)) :=
  exec_eq_blockIo_repeat run (s.advanceR_blockOut step) rfl

end

end Machine

end Sys2Proof

namespace Sys2Proof.Proofs

open Sys2Proof.Machine

/-- Settles O49: the conditions read from the flags, the relative targets read as numbers. -/
theorem jumpsOfCpuB : Obligations.JumpsOfCpuB := by
  intro cc jc e nn i s f pc near holds holdsJr b
  have cond : holds = s.cond cc := by cases cc <;> rfl
  have jrCond : holdsJr = s.jrCond jc := by cases jc <;> rfl
  have target (taken : Bool) : near taken = if taken then pc + 2 + sext16 e else pc + 2 :=
    (relativeTarget_eq_ofInt pc e taken).symm
  rw [cond, jrCond, target, target, target]
  refine ⟨?jp, ?jpCc, ?jr, ?jrCc, ?jpHl, ?jpXy, ?djnz⟩
  all_goals exact exec_eq_goB_of_jumpB

/-- Settles O50: a call is one `push16B`, a return one `pop16B`; the conditional forms do it or pass by. -/
theorem callsAndReturnsOfCpuB : Obligations.CallsAndReturnsOfCpuB := by
  intro cc nn k s sp pushed top popped pc
  exact ⟨exec_eq_push16B_goB, exec_bCallCc cc nn s, exec_eq_goB_of_jumpB, exec_bRetCc cc s, exec_eq_goB_of_jumpB,
    exec_eq_goB_of_jumpB, exec_eq_push16B_goB⟩

/-- Settles O51: the block forms are `blockIn`, with the repeat test on the decremented `B`. -/
theorem portInputOfCpuB : Obligations.PortInputOfCpuB := by
  intro n r s v b block again pc
  have once (step : Word) : block step = s.blockIn step := rfl
  have back : (0xFFFF : Word) = -1 := by decide
  rw [once, once, back]
  refine ⟨exec_eq_setReg, ?inRC, exec_eq_blockIn, exec_eq_blockIn, exec_eq_blockIn_repeat, exec_eq_blockIn_repeat,
    fun port => ⟨ioRead_unlisted s.params port, fun _ _ _ => ioRead_first⟩⟩
  case inRC => rw [exec_bInRC, FlagSet.szp_eq]

/-- Settles O52: the block forms are `blockOut`, which forms the port from the decremented `B`. -/
theorem portOutputOfCpuB : Obligations.PortOutputOfCpuB := by
  intro n r s port v b block again pc
  have once (step : Word) : block step = s.blockOut step := rfl
  have back : (0xFFFF : Word) = -1 := by decide
  rw [once, once, back]
  exact ⟨exec_eq_ioWrite, exec_eq_ioWrite, exec_eq_blockOut, exec_eq_blockOut, exec_eq_blockOut_repeat,
    exec_eq_blockOut_repeat, s.ioWrite_eq port v⟩

/-- Settles O53: NOP, DI, EI, IM and the unknown forms pass by, HALT jumps to itself. -/
theorem controlAndUnknownOfCpuB : Obligations.ControlAndUnknownOfCpuB := by
  intro m k i d x s pc nothing interrupts
  refine ⟨?nop, ?halt, ?unkCb, ?unkEd, ?unkXy, ?unkXycb, ?di, ?ei, ?im⟩
  case halt => exact exec_eq_goB_of_jumpB
  all_goals exact exec_eq_passB

end Sys2Proof.Proofs
end

section
/-! PROOF. The sound chips (50_sound_chip_decoders.md R530 to R554): the port map and the port device of the AY, the voices
of the four chips from the bytes of the register file, their frequencies as fractions, and the note of a frequency as the
floor of the real formula. -/

namespace Sys2Proof

/-! ### Frequencies as numbers -/

/-- A frequency as an element of a field. -/
def Hz.hertz (K : Type) [Field K] (f : Hz) : K := f.num / f.den

section
variable {K : Type} [Field K] (f : Hz) (k : Nat)

theorem Hz.hertz_over : (f.over k).hertz K = f.hertz K / k := by
  rw [hertz, Hz.over, Nat.cast_mul, ← div_div]; rfl

theorem Hz.hertz_times : (f.times k).hertz K = k * f.hertz K := by
  rw [hertz, Hz.times, Nat.cast_mul, mul_comm, mul_div_assoc]; rfl

end

/-! ### Notes -/

/-- The real number whose floor is the note of the frequency `hz` (R554). -/
noncomputable def noteNumber (hz : ℝ) : ℝ := 69 + 12 * Real.logb 2 (hz / 440) + 1 / 2

theorem noteNumber_mono {x y : ℝ} (positive : 0 < x) (le : x ≤ y) : noteNumber x ≤ noteNumber y := by
  have logs : Real.logb 2 (x / 440) ≤ Real.logb 2 (y / 440) :=
    Real.logb_le_logb_of_le (by norm_num) (by positivity) (by linarith)
  unfold noteNumber
  linarith

/-- The test without logarithms is that with logarithms: both sides are divided by `(440 * den) ^ 24`, and then the
logarithm is taken. -/
theorem Hz.atLeastNote_iff {f : Hz} (defined : 0 < f.den) (positive : 0 < f.hertz ℝ) (n : Nat) :
    f.atLeastNote n = true ↔ (n : ℝ) ≤ noteNumber (f.hertz ℝ) := by
  have den : (0 : ℝ) < f.den := Nat.cast_pos.2 defined
  have num : (f.num : ℝ) ^ 24 = (f.hertz ℝ / 440) ^ 24 * (440 * f.den) ^ 24 := by
    rw [← mul_pow, hertz]; congr 1; field_simp
  calc f.atLeastNote n = true
    _ ↔ (2 : ℝ) ^ (2 * n) * (440 * f.den) ^ 24 ≤ 2 ^ 139 * f.num ^ 24 := by
      rw [atLeastNote, decide_eq_true_iff]; exact_mod_cast Iff.rfl
    _ ↔ (2 : ℝ) ^ (2 * n) ≤ 2 ^ 139 * (f.hertz ℝ / 440) ^ 24 := by
      rw [num, ← mul_assoc, mul_le_mul_iff_of_pos_right (by positivity)]
    _ ↔ Real.logb 2 (2 ^ (2 * n)) ≤ Real.logb 2 (2 ^ 139 * (f.hertz ℝ / 440) ^ 24) :=
      (Real.logb_le_logb (by norm_num) (by positivity) (by positivity)).symm
    _ ↔ 2 * (n : ℝ) ≤ 139 + 24 * Real.logb 2 (f.hertz ℝ / 440) := by
      rw [Real.logb_mul (by positivity) (by positivity)]
      simp only [Real.logb_pow, Real.logb_self_eq_one (one_lt_two : (1 : ℝ) < 2), mul_one, Nat.cast_mul, Nat.cast_ofNat]
    _ ↔ (n : ℝ) ≤ noteNumber (f.hertz ℝ) := by
      unfold noteNumber; constructor <;> intro h <;> linarith

theorem Hz.noteUpTo_eq_findGreatest (f : Hz) (k : Nat) :
    f.noteUpTo k = Nat.findGreatest (fun n => f.atLeastNote n = true) k := by
  induction k with
  | zero => rfl
  | succ k ih => rw [noteUpTo, Nat.findGreatest_succ, ih]

/-- A search up to a bound that the note number does not pass ends at its floor. -/
theorem Hz.noteUpTo_eq_floor {f : Hz} (defined : 0 < f.den) (positive : 0 < f.hertz ℝ) {k : Nat}
    (nonneg : 0 ≤ noteNumber (f.hertz ℝ)) (bound : ⌊noteNumber (f.hertz ℝ)⌋₊ ≤ k) :
    f.noteUpTo k = ⌊noteNumber (f.hertz ℝ)⌋₊ := by
  have reaches (n : Nat) : f.atLeastNote n = true ↔ n ≤ ⌊noteNumber (f.hertz ℝ)⌋₊ :=
    (atLeastNote_iff defined positive n).trans (Nat.le_floor_iff nonneg).symm
  rw [noteUpTo_eq_findGreatest, Nat.findGreatest_eq_iff]
  exact ⟨bound, fun _ => (reaches _).2 le_rfl, fun n above _ reached => above.not_ge ((reaches n).1 reached)⟩

theorem Hz.hertz_den_one (k : Nat) : Hz.hertz ℝ ⟨k, 1⟩ = k := by
  rw [hertz, Nat.cast_one, div_one]

/-- 20 Hz reaches note 15, as the test decides. -/
theorem fifteen_le_noteNumber {hz : ℝ} (low : 20 ≤ hz) : 15 ≤ noteNumber hz := by
  have hertz : Hz.hertz ℝ ⟨20, 1⟩ = 20 := Hz.hertz_den_one 20
  have reached : (⟨20, 1⟩ : Hz).atLeastNote 15 = true := by decide
  rw [Hz.atLeastNote_iff one_pos (by rw [hertz]; norm_num), hertz] at reached
  exact reached.trans (noteNumber_mono (by norm_num) low)

/-- 20 kHz does not reach note 136, as the test decides. -/
theorem noteNumber_lt_136 {hz : ℝ} (positive : 0 < hz) (high : hz ≤ 20000) : noteNumber hz < 136 := by
  have hertz : Hz.hertz ℝ ⟨20000, 1⟩ = 20000 := Hz.hertz_den_one 20000
  have missed : ¬ (⟨20000, 1⟩ : Hz).atLeastNote 136 = true := by decide +kernel
  rw [Hz.atLeastNote_iff one_pos (by rw [hertz]; norm_num), hertz, not_le] at missed
  exact (noteNumber_mono positive high).trans_lt missed

namespace Machine

/-- A frequency outside 20 Hz to 20 kHz has no note. -/
theorem frequencyToNote_outside {f : Hz} (defined : 0 < f.den) (outside : f.hertz ℝ < 20 ∨ 20000 < f.hertz ℝ) :
    frequencyToNote (some f) = none := by
  have den : (0 : ℝ) < f.den := Nat.cast_pos.2 defined
  rw [Hz.hertz, div_lt_iff₀ den, lt_div_iff₀ den] at outside
  exact if_pos (.inr (mod_cast outside))

/-- The note of any other is the search up to note 135. -/
theorem frequencyToNote_inside {f : Hz} (defined : 0 < f.den) (low : 20 ≤ f.hertz ℝ) (high : f.hertz ℝ ≤ 20000) :
    frequencyToNote (some f) = some (f.noteUpTo 135) := by
  have den : (0 : ℝ) < f.den := Nat.cast_pos.2 defined
  rw [Hz.hertz, le_div_iff₀ den] at low
  rw [Hz.hertz, div_le_iff₀ den] at high
  norm_cast at low high
  exact if_neg (by omega)

/-! ### Frequency formulas -/

theorem pokeyFast_eq_true_iff (sh : List Byte) (c : Nat) :
    pokeyFast sh c = true ↔
      (c = 0 ∧ (regAt sh 8).getLsbD 6 = true) ∨ (c = 2 ∧ (regAt sh 8).getLsbD 5 = true) := by
  match c with
  | 0 | 1 | 2 | _ + 3 => simp [pokeyFast, bit]

theorem pokeyFrequency_hertz (p : Params) (sh : List Byte) (c audf : Nat) :
    (pokeyFrequency p sh c audf).hertz ℚ =
      if pokeyFast sh c = true then p.pokeyClock.hertz ℚ / (2 * (audf + 4))
      else p.pokeyClock.hertz ℚ / (if (regAt sh 8).getLsbD 0 then 114 else 28) / (2 * (audf + 1)) := by
  unfold pokeyFrequency bit
  split
  · rw [Hz.hertz_over]; push_cast; rfl
  · rw [Hz.hertz_over, Hz.hertz_over]; push_cast; rfl

theorem ayFrequency_hertz (p : Params) (period : Nat) :
    (ayFrequency p period).map (Hz.hertz ℚ) =
      if period = 0 then none else some (p.ayClock.hertz ℚ / (16 * period)) := by
  unfold ayFrequency
  split
  · rfl
  · rw [Option.map_some, Hz.hertz_over]; push_cast; rfl

/-! ### Voices -/

/-- What a decoder says of a voice, in numbers. -/
def VoiceState.Says (on : Prop) (pitch : Nat) (volume : Option Nat) (w : VoiceState) : Prop :=
  (w.noteOn = true ↔ on) ∧ w.pitchRegisterValue.toNat = pitch ∧ w.volume.map BitVec.toNat = volume

theorem splitField_eq (lo hi : Byte) (n : Nat) : splitField lo hi n = lo.toNat + 256 * (hi.toNat % 2 ^ n) := by
  rw [splitField, field_eq_div_mod, pow_zero, Nat.div_one]

/-- A raw pitch of two bytes fits the pitch register. -/
theorem pitch_splitField_toNat (lo hi : Byte) (n : Nat) :
    (BitVec.ofNat 32 (splitField lo hi n)).toNat = lo.toNat + 256 * (hi.toNat % 2 ^ n) := by
  have high : hi.toNat % 2 ^ n ≤ hi.toNat := Nat.mod_le _ _
  rw [splitField_eq, BitVec.toNat_ofNat, Nat.mod_eq_of_lt (by omega)]

theorem bne_zero_eq_true_iff (v : Byte) : (v != 0) = true ↔ 0 < v.toNat := by
  rw [bne_iff_ne, Nat.pos_iff_ne_zero, Ne, Ne, ← BitVec.toNat_inj]; rfl

theorem and_7F_toNat (v : Byte) : (v &&& 0x7F).toNat = v.toNat % 128 :=
  (BitVec.toNat_and v 0x7F).trans (Nat.and_two_pow_sub_one_eq_mod v.toNat 7)

section
variable {p : Params} (sh : List Byte)

theorem nesTriangle_says :
    (nesTriangle sh).Says ((regAt sh 8).toNat % 128 ≠ 0)
      ((regAt sh 0x0A).toNat + 256 * ((regAt sh 0x0B).toNat % 8)) none := by
  refine ⟨?_, pitch_splitField_toNat _ _ 3, rfl⟩
  rw [nesTriangle, bne_zero_eq_true_iff, and_7F_toNat, Nat.pos_iff_ne_zero]

theorem sidVoice_says (v : Nat) :
    (sidVoice sh v).Says ((regAt sh (7 * v + 4)).toNat % 2 = 1)
      ((regAt sh (7 * v)).toNat + 256 * (regAt sh (7 * v + 1)).toNat) none := by
  refine ⟨?_, ?_, rfl⟩
  · exact (Bool.eq_iff_iff.1 (Nat.testBit_zero _)).trans decide_eq_true_iff
  · exact (pitch_splitField_toNat _ _ 8).trans (by rw [Nat.mod_eq_of_lt (BitVec.isLt _)])

variable (gated : p.gateNeedsVolume = true)
include gated

/-- With the default gate, a voice of volume 0 is off. -/
theorem volumeGate_low_digit (v : Byte) : volumeGate p (v &&& 0x0F) = true ↔ 0 < v.toNat % 16 := by
  rw [volumeGate, gated, Bool.not_true, Bool.false_or, bne_zero_eq_true_iff, and_0F_toNat]

theorem nesPulse_says (n : Nat) :
    (nesPulse p sh n).Says ((regAt sh 0x15).getLsbD n = true ∧ 0 < (regAt sh (4 * n)).toNat % 16)
      ((regAt sh (4 * n + 2)).toNat + 256 * ((regAt sh (4 * n + 3)).toNat % 8))
      (some ((regAt sh (4 * n)).toNat % 16)) := by
  refine ⟨?_, pitch_splitField_toNat _ _ 3, congrArg some (and_0F_toNat _)⟩
  rw [nesPulse, Bool.and_eq_true, volumeGate_low_digit gated]; rfl

theorem nesNoise_says :
    (nesNoise p sh).Says (0 < (regAt sh 0x0C).toNat % 16) 0 (some ((regAt sh 0x0C).toNat % 16)) :=
  ⟨volumeGate_low_digit gated _, rfl, congrArg some (and_0F_toNat _)⟩

theorem pokeyVoice_says (tone : ∀ v : Byte, p.pokeyTone.getLsbD v.toNat = (v &&& 0xA0 == 0xA0)) (c : Nat) :
    (pokeyVoice p sh c).Says (regAt sh (2 * c + 1) &&& 0xA0 = 0xA0 ∧ 0 < (regAt sh (2 * c + 1)).toNat % 16)
      (regAt sh (2 * c)).toNat (some ((regAt sh (2 * c + 1)).toNat % 16)) := by
  refine ⟨?_, ?_, congrArg some (and_0F_toNat _)⟩
  · rw [pokeyVoice, Bool.and_eq_true, volumeGate_low_digit gated, tone, beq_iff_eq]
  · exact Nat.mod_eq_of_lt (by omega)

theorem ayVoice_says (c : Nat) :
    (ayVoice p sh c).Says
      ((regAt sh 7).getLsbD c = false ∧ 0 < (regAt sh (8 + c)).toNat % 16 ∧
        0 < (regAt sh (2 * c)).toNat + 256 * ((regAt sh (2 * c + 1)).toNat % 16))
      ((regAt sh (2 * c)).toNat + 256 * ((regAt sh (2 * c + 1)).toNat % 16))
      (some ((regAt sh (8 + c)).toNat % 16)) := by
  refine ⟨?_, pitch_splitField_toNat _ _ 4, congrArg some (and_0F_toNat _)⟩
  rw [ayVoice, Bool.and_eq_true, Bool.and_eq_true, volumeGate_low_digit gated, decide_eq_true_iff, splitField_eq,
    Bool.not_eq_true', and_assoc]
  rfl

end

/-! ### The AY port device -/

/-- A port without an entry of its own is judged by its high byte (R534, log entry 6). -/
theorem portRole_unlisted {p : Params} {port : Word} (others : ∀ e ∈ p.portMap, e.1 ≠ port.toNat) :
    portRole p port =
      if port.toNat / 256 = 0xFF then .aySelect else if port.toNat / 256 = 0xBF then .ayData else .unmapped := by
  have absent : p.portMap.find? (fun e => e.1 == port.toNat) = none := by simpa using others
  have high (b : Byte) : hiByte port = b ↔ port.toNat / 256 = b.toNat := by rw [← hiByte_toNat, BitVec.toNat_inj]
  rw [portRole, absent]
  simp only [high]
  rfl

/-- Another is what its first entry says (log entry 6). -/
theorem portRole_first {p : Params} {port : Word} {before after : List (Nat × PortRole)} {role : PortRole}
    (listed : p.portMap = before ++ (port.toNat, role) :: after) (others : ∀ e ∈ before, e.1 ≠ port.toNat) :
    portRole p port = role := by
  rw [portRole, listed, find?_key_eq_first others]

/-- Only the AY has a port device (R84, R534). -/
theorem State.ioWrite_eq_ite (s : State) (port : Word) (v : Byte) :
    s.ioWrite port v = if s.params.chip = .ay then s.ayWrite port v else s := by
  unfold State.ioWrite
  cases s.params.chip <;> rfl

end Machine

end Sys2Proof

namespace Sys2Proof.Proofs

open Sys2Proof.Machine

/-- Settles O57: between 20 Hz and 20 kHz the search ends at the floor of the real formula, which lies from 15 to 135. -/
theorem frequencyToNoteIsTheFormula : Obligations.FrequencyToNoteIsTheFormula := by
  refine ⟨rfl, fun f defined => ?_⟩
  intro hz
  refine ⟨frequencyToNote_outside defined, fun low high => ?_⟩
  have positive : 0 < f.hertz ℝ := lt_of_lt_of_le (by norm_num) low
  have least : 15 ≤ noteNumber (f.hertz ℝ) := fifteen_le_noteNumber low
  have nonneg : 0 ≤ noteNumber (f.hertz ℝ) := le_trans (by norm_num) least
  have greatest : ⌊noteNumber (f.hertz ℝ)⌋₊ < 136 := (Nat.floor_lt nonneg).2 (noteNumber_lt_136 positive high)
  have search : f.noteUpTo 135 = ⌊noteNumber (f.hertz ℝ)⌋₊ :=
    Hz.noteUpTo_eq_floor defined positive nonneg (Nat.le_of_lt_succ greatest)
  exact ⟨⌊noteNumber (f.hertz ℝ)⌋₊, search ▸ frequencyToNote_inside defined low high, Nat.le_floor least,
    Nat.le_of_lt_succ greatest, Int.natCast_floor_eq_floor nonneg⟩

/-- Settles O54: a port's role is that of its first entry, else that of its high byte, and only the AY has ports. -/
theorem ayPortDevice : Obligations.AyPortDevice := by
  intro s port v
  exact ⟨s.ioWrite_eq_ite port v, portRole_unlisted, fun _ _ _ => portRole_first⟩

/-- Settles O55: the voices in the order of R536, each by what its decoder says. -/
theorem voicesOfEveryChip : Obligations.VoicesOfEveryChip := by
  intro p sh gated tone
  refine ⟨fun _ _ => regAt_of_some, ?_⟩
  intro reg voice pulse sid pokey ay
  unfold deriveVoices
  cases p.chip with
  | nesApu =>
    exact ⟨_, _, _, _, rfl, nesPulse_says sh gated 0, nesPulse_says sh gated 1, nesTriangle_says sh,
      nesNoise_says sh gated⟩
  | sid => exact ⟨_, _, _, rfl, sidVoice_says sh 0, sidVoice_says sh 1, sidVoice_says sh 2⟩
  | pokey =>
    have each := pokeyVoice_says sh gated tone
    exact ⟨_, _, _, _, rfl, each 0, each 1, each 2, each 3⟩
  | ay =>
    have each := ayVoice_says sh gated
    exact ⟨_, _, _, rfl, each 0, each 1, each 2⟩

/-- Settles O56: each formula is a clock times or divided by numbers. -/
theorem frequencyFormulas : Obligations.FrequencyFormulas := by
  intro p sh n q ctl base
  have hertz : q = Hz.hertz ℚ := rfl
  have nes (k : Nat) : q (p.nesClock.over (k * (n + 1))) = q p.nesClock / (k * (n + 1)) := by
    rw [hertz, Hz.hertz_over]; push_cast; rfl
  refine ⟨⟨congrArg some (nes 16), congrArg some (nes 16), congrArg some (nes 32)⟩, ?sid, ?pokey, ayFrequency_hertz p n⟩
  case sid => rw [hertz, sidFrequency, Hz.hertz_over, Hz.hertz_times]; rfl
  case pokey => exact fun c => (pokeyFrequency_hertz p sh c n).trans (by simp only [pokeyFast_eq_true_iff]; rfl)

end Sys2Proof.Proofs
end

section
/-! PROOF. That every instruction ends, what it charges, and the run of a routine (60_exceptions.md R582,
70_reset_and_hazards.md R613 to R618): the states of a run are the iterates of one step, and every step of it costs at
least 1 cycle and, under the default tables, at most what the CPU's slowest instruction costs. -/

namespace Sys2Proof.Machine

/-! ### What every instruction does with the launch parameters and the cost -/

section
variable {i : Instr} {f : State → State} {e : State → Result} {s t : State}

/-- A body writes no launch parameter (R38). -/
theorem Body.params (h : Body i f) (s : State) : (f s).params = s.params := by
  induction h with
  | skip => rfl
  | cpuA _ _ ih | cpuB _ _ _ ih => exact ih
  | write _ _ _ ih => rwa [State.write_params]
  | ioWrite _ _ _ ih => rwa [State.ioWrite_params]
  | ite _ _ ih => beta_reduce; split <;> [exact ih; rfl]

theorem Runs.params (h : Runs i e) (ht : e s = .next t) : t.params = s.params := by
  cases h with
  | a hf => rw [jumpA_next ht]; exact hf.params s
  | b hf => rw [jumpB_next ht]; exact hf.params (s.advanceR i.fetches)

/-- Every instruction has a next state, in which the cost of one of its variants is charged (R613). -/
theorem Runs.completes (h : Runs i e) (s : State) : ∃ t v, e s = .next t ∧ t.cycles = cyc s.params i v := by
  cases h with
  | a hf => exact ⟨_, _, rfl, congrArg (cyc · i _) (hf.params s)⟩
  | b hf => exact ⟨_, _, rfl, congrArg (cyc · i _) (hf.params (s.advanceR i.fetches))⟩

end

end Sys2Proof.Machine

namespace Sys2Proof

/-! ### The slowest instructions -/

/-- The default cost of the slowest instructions of a CPU (R617): on CPU-A read-modify-write on mode `absx`, on CPU-B
that on an indexed byte and EX (SP),XY. -/
def CpuKind.maxCycles : CpuKind → Nat
  | .a => 7
  | .b => 23

theorem AddrMode.readCycles_le (m : AddrMode) : m.readCycles ≤ 7 := by cases m <;> exact Nat.le_of_ble_eq_true rfl

theorem AddrMode.writeCycles_le (m : AddrMode) : m.writeCycles ≤ 7 := by cases m <;> exact Nat.le_of_ble_eq_true rfl

theorem AddrMode.rmwCycles_le (m : AddrMode) : m.rmwCycles ≤ 7 := by cases m <;> exact Nat.le_of_ble_eq_true rfl

theorem AOperand.cycles_le (m : AOperand) : m.cycles ≤ 7 := by
  cases m with
  | imm n => exact Nat.le_of_ble_eq_true rfl
  | mem m => exact m.readCycles_le

theorem ATarget.cycles_le (t : ATarget) : t.cycles ≤ 7 := by
  cases t with
  | acc => decide
  | mem m => exact m.rmwCycles_le

theorem nop2Cycles_le (op : Byte) : nop2Cycles op ≤ 7 := by
  unfold nop2Cycles
  split_ifs <;> decide

theorem Src8.cycles_le (m : Src8) : m.cycles ≤ 23 := by cases m <;> exact Nat.le_of_ble_eq_true rfl

theorem Loc8.cycles_le (v : Loc8) : v.cycles ≤ 23 := by cases v <;> exact Nat.le_of_ble_eq_true rfl

theorem Loc8.cyclesCB_le (v : Loc8) : v.cyclesCB ≤ 23 := by cases v <;> exact Nat.le_of_ble_eq_true rfl

theorem Loc8.cyclesBit_le (v : Loc8) : v.cyclesBit ≤ 23 := by cases v <;> exact Nat.le_of_ble_eq_true rfl

/-- No default cost is higher: the split is that of the cost table, by what a cost depends on. -/
theorem Instr.defaultCycles_le (i : Instr) (v : Bool) : i.defaultCycles v ≤ i.cpu.maxCycles := by
  cases i with
  -- the operand form
  | aLda m | aLdx m | aLdy m | aAdc m | aSbc m | aAnd m | aOra m | aEor m | aCmp m | aCpx m | aCpy m =>
    exact m.cycles_le
  | aSta m | aStx m | aSty m => exact m.writeCycles_le
  | aBit m => exact m.readCycles_le
  | aInc m | aDec m => exact m.rmwCycles_le
  | aAsl t | aLsr t | aRol t | aRor t => exact t.cycles_le
  | aNop2 op => exact nop2Cycles_le op
  | bAdd m | bAdc m | bSub m | bSbc m | bAnd m | bXor m | bOr m | bCp m => exact m.cycles_le
  | bInc l | bDec l => exact l.cycles_le
  | bRlc l | bRrc l | bRl l | bRr l | bSla l | bSra l | bSrl l | bSet _ l | bRes _ l => exact l.cyclesCB_le
  | bBit _ l => exact l.cyclesBit_le
  -- the variant
  | aBpl | aBmi | aBvc | aBvs | aBcc | aBcs | aBne | aBeq => cases v <;> exact Nat.le_of_ble_eq_true rfl
  | bLdir | bLddr | bCpir | bCpdr | bInir | bIndr | bOtir | bOtdr | bJrCc | bDjnz | bCallCc | bRetCc =>
    cases v <;> exact Nat.le_of_ble_eq_true rfl
  -- nothing
  | _ => exact Nat.le_of_ble_eq_true rfl

namespace Machine

/-- The instruction at `PC` is one of the session's CPU. -/
theorem State.fetch_cpu (s : State) : s.fetch.cpu = s.params.cpu := by
  obtain ⟨_, cpu, _⟩ := Proofs.encodeOfDecode s.params.cpu (s.read s.pc) (s.read (s.pc + 1)) (s.read (s.pc + 2))
    (s.read (s.pc + 3))
  exact cpu

/-! ### One step after another -/

/-- The state that a step leaves (`step_eq_next`). -/
def State.next (s : State) : State :=
  match step s with
  | .next t => t
  | .fault _ | .refused _ => s

/-- What `k` steps from `s` return, summed. -/
def State.spent (s : State) (k : Nat) : Nat := ∑ j ∈ Finset.range k, (State.next^[j + 1] s).cycles

theorem step_eq_next (s : State) : step s = .next s.next := by
  obtain ⟨t, _, run, _⟩ := (exec_runs s.fetch).completes s
  have run : step s = .next t := run
  rw [State.next, run]

theorem State.next_params (s : State) : s.next.params = s.params := (exec_runs s.fetch).params (step_eq_next s)

theorem State.next_cycles (s : State) : ∃ v, s.next.cycles = cyc s.params s.fetch v := by
  obtain ⟨t, v, run, cost⟩ := (exec_runs s.fetch).completes s
  have same : s.next = t := by injection (step_eq_next s).symm.trans run
  exact ⟨v, same ▸ cost⟩

theorem State.next_cycles_pos (s : State) : 1 ≤ s.next.cycles := by
  obtain ⟨v, cost⟩ := s.next_cycles
  exact cost ▸ cyc_pos s.params s.fetch v

/-- Under the default tables a step costs at most what the CPU's slowest instruction costs (R617). -/
theorem State.next_cycles_le {s : State} (defaults : s.params.cycles = []) :
    s.next.cycles ≤ s.params.cpu.maxCycles := by
  obtain ⟨v, cost⟩ := s.next_cycles
  have default : cyc s.params s.fetch v = s.fetch.defaultCycles v := by rw [cyc, defaults]; rfl
  rw [cost, default, ← s.fetch_cpu]
  exact s.fetch.defaultCycles_le v

theorem State.next_inv {s : State} (h : s.Inv) : s.next.Inv := (exec_runs s.fetch).inv h (step_eq_next s)

/-- What every step keeps is kept by any number of them. -/
theorem State.iterate_next {P : State → Prop} (step : ∀ s, P s → P s.next) {s : State} (start : P s) (k : Nat) :
    P (State.next^[k] s) := by
  induction k with
  | zero => exact start
  | succ k ih => rw [Function.iterate_succ_apply']; exact step _ ih

theorem State.iterate_next_params (s : State) (k : Nat) : (State.next^[k] s).params = s.params :=
  iterate_next (P := fun t => t.params = s.params) (fun t h => t.next_params.trans h) rfl k

/-! ### The run of a routine -/

/-- `k` steps of the loop of R616 are made from `s`, with `total` spent before them, and then it ends: both tests hold
before each of them, the first included, and do not both hold after the last. -/
def LoopEnds (s0 maxCycles total : Nat) (s : State) (k : Nat) : Prop :=
  (∀ j < k, (State.next^[j] s).spr < s0 ∧ total + s.spent j < maxCycles) ∧
  ¬ ((State.next^[k] s).spr < s0 ∧ total + s.spent k < maxCycles)

theorem State.spent_succ (s : State) (k : Nat) : s.spent (k + 1) = s.spent k + (State.next^[k + 1] s).cycles :=
  Finset.sum_range_succ _ k

/-- The first of the steps, and the others from the state it leaves. -/
theorem State.spent_succ' (s : State) (k : Nat) : s.spent (k + 1) = s.next.cycles + s.next.spent k := by
  rw [spent, Finset.sum_range_succ', add_comm]; rfl

theorem LoopEnds.after_step {s0 maxCycles total k : Nat} {s : State} (tests : s.spr < s0 ∧ total < maxCycles)
    (rest : LoopEnds s0 maxCycles (total + s.next.cycles) s.next k) : LoopEnds s0 maxCycles total s (k + 1) := by
  have shift (j : Nat) : total + s.next.cycles + s.next.spent j = total + s.spent (j + 1) := by
    rw [State.spent_succ', add_assoc]
  simp only [LoopEnds, shift, ← Function.iterate_succ_apply] at rest
  obtain ⟨before, after⟩ := rest
  refine ⟨fun j hj => ?_, after⟩
  cases j with
  | zero => exact tests
  | succ j => exact before j (Nat.lt_of_succ_lt_succ hj)

/-- The bound of `runLoop` on the number of its steps is never what ends it: each step spends at least 1 of the budget
(R618). -/
theorem runLoop_eq (s0 maxCycles : Nat) : ∀ (fuel total : Nat) (s : State), maxCycles ≤ total + fuel →
    ∃ k ≤ fuel, LoopEnds s0 maxCycles total s k ∧
      runLoop s0 maxCycles fuel total s = (total + s.spent k, State.next^[k] s) := by
  intro fuel
  induction fuel with
  | zero =>
    intro total s enough
    exact ⟨0, le_rfl, ⟨fun _ hj => absurd hj (Nat.not_lt_zero _), fun tests => absurd tests.2 enough.not_gt⟩, rfl⟩
  | succ fuel ih =>
    intro total s enough
    by_cases tests : s.spr < s0 ∧ total < maxCycles
    · have cost := s.next_cycles_pos
      obtain ⟨k, bound, ends, run⟩ := ih (total + s.next.cycles) s.next (by omega)
      refine ⟨k + 1, Nat.succ_le_succ bound, ends.after_step tests, ?_⟩
      rw [runLoop, if_pos tests, step_eq_next, State.spent_succ', ← add_assoc, Function.iterate_succ_apply]
      exact run
    · refine ⟨0, Nat.zero_le _, ⟨fun _ hj => absurd hj (Nat.not_lt_zero _), tests⟩, ?_⟩
      rw [runLoop, if_neg tests]; rfl

theorem runUntilStackDepth_eq (s : State) (target : Word) (maxCycles : Nat) :
    ∃ k ≤ maxCycles, LoopEnds s.spr maxCycles 0 (s.enterRoutine target) k ∧
      runUntilStackDepth s target maxCycles =
        ((s.enterRoutine target).spent k, State.next^[k] (s.enterRoutine target)) := by
  simpa only [runUntilStackDepth, Nat.zero_add] using
    runLoop_eq s.spr maxCycles maxCycles 0 (s.enterRoutine target) (Nat.le_add_left _ _)

/-- A run that the budget ends has spent it, and less than its last step above it (R617). -/
theorem LoopEnds.spent_bounds {s0 maxCycles k : Nat} {s : State} (ends : LoopEnds s0 maxCycles 0 s k)
    (defaults : s.params.cycles = []) (deep : (State.next^[k] s).spr < s0) :
    maxCycles ≤ s.spent k ∧ s.spent k < maxCycles + s.params.cpu.maxCycles := by
  obtain ⟨before, after⟩ := ends
  have reached : maxCycles ≤ s.spent k := by
    by_contra more
    exact after ⟨deep, by omega⟩
  refine ⟨reached, ?_⟩
  cases k with
  | zero =>
    have some_cost : 0 < s.params.cpu.maxCycles := by cases s.params.cpu <;> decide
    exact Nat.add_pos_right maxCycles some_cost
  | succ k =>
    obtain ⟨_, under⟩ := before k (Nat.lt_succ_self k)
    have last : (State.next^[k + 1] s).cycles ≤ s.params.cpu.maxCycles := by
      have kept := s.iterate_next_params k
      rw [Function.iterate_succ_apply', ← kept]
      exact State.next_cycles_le (kept ▸ defaults)
    rw [State.spent_succ]
    omega

/-! ### The entry of a routine -/

theorem State.enterRoutine_params (s : State) (target : Word) : (s.enterRoutine target).params = s.params := by
  unfold enterRoutine
  cases s.params.cpu with
  | a => rw [push16A_eq]; exact writeAll_params _ s
  | b => exact (write_params _ _ _).trans (write_params _ _ _)

/-- CPU-A pushes the sentinel, high byte first (R615). -/
theorem State.enterRoutine_cpuA {s : State} (cpu : s.params.cpu = .a) (target : Word) :
    s.enterRoutine target = { s.writeAll [(stackAddrA s.cpuA.s, hiByte s.params.sentinel),
        (stackAddrA (s.cpuA.s - 1), loByte s.params.sentinel)] with
      cpuA := { s.cpuA with s := s.cpuA.s - 2, pc := target } } := by
  rw [enterRoutine, cpu, push16A_eq]
  simp only [setPcA, setS, writeAll_cpuA]

/-- CPU-B pushes it likewise. -/
theorem State.enterRoutine_cpuB {s : State} (cpu : s.params.cpu = .b) (target : Word) :
    s.enterRoutine target = { s.writeAll [(s.cpuB.sp - 1, hiByte s.params.sentinel),
        (s.cpuB.sp - 2, loByte s.params.sentinel)] with
      cpuB := { s.cpuB with sp := s.cpuB.sp - 2, pc := target } } := by
  rw [enterRoutine, cpu]
  simp only [setPcB, push16B, setSp, writeAll, write_cpuB]

end Machine

end Sys2Proof

namespace Sys2Proof.Proofs

open Sys2Proof.Machine

/-- Settles O1: an instruction is a body, an address and a cost, and a step is an instruction. -/
theorem everyInstructionCompletes : Obligations.EveryInstructionCompletes := by
  have completes (i : Instr) (s : State) : ∃ t, exec i s = .next t ∧ 1 ≤ t.cycles := by
    obtain ⟨t, v, run, cost⟩ := (exec_runs i).completes s
    exact ⟨t, run, cost ▸ cyc_pos s.params i v⟩
  exact ⟨completes, fun s => completes s.fetch s⟩

/-- Settles O58: the visited states are the iterates of one step, the totals the costs of the steps to them. -/
theorem runUntilStackDepthIsTheLoop : Obligations.RunUntilStackDepthIsTheLoop := by
  intro s target maxCycles
  obtain ⟨k, bound, ⟨before, after⟩, run⟩ := runUntilStackDepth_eq s target maxCycles
  simp only [Nat.zero_add] at before after
  refine ⟨k, fun j => State.next^[j] (s.enterRoutine target), (s.enterRoutine target).spent, rfl, rfl, fun j hj => ?_,
    after, bound, run⟩
  obtain ⟨shallow, under⟩ := before j hj
  refine ⟨shallow, under, ?_, State.spent_succ _ j⟩
  beta_reduce
  rw [Function.iterate_succ_apply']
  exact step_eq_next _

/-- Settles O59: the entry is that of the CPU's stack; the last step of the run begins below the budget. -/
theorem budgetExpiryIsBounded : Obligations.BudgetExpiryIsBounded := by
  intro s target maxCycles
  refine ⟨?entry, fun defaults deep => ?bounds⟩
  case entry =>
    split
    · next cpu => exact State.enterRoutine_cpuA cpu target
    · next cpu => exact State.enterRoutine_cpuB cpu target
  case bounds =>
    obtain ⟨k, _, ends, run⟩ := runUntilStackDepth_eq s target maxCycles
    have params := s.enterRoutine_params target
    rw [run] at deep ⊢
    have bounds := ends.spent_bounds (params ▸ defaults) deep
    rw [params] at bounds
    exact bounds

end Sys2Proof.Proofs
end

section
/-! PROOF. Reset and the host (70_reset_and_hazards.md R610, R611, R620 to R624, R631): what a created session holds,
that everything the host does to a session keeps the form of the state, which songs it accepts, and its two operations. -/

namespace Sys2Proof

/-- The parameters a session accepts (93_implementation_defined.md U7, U8, U11). -/
theorem Params.wf_iff (p : Params) :
    p.wf = true ↔
      (p.chip ≠ .ay → p.chipBase + p.chipSize ≤ 65536) ∧
      (∀ f ∈ [p.nesClock, p.sidClock, p.pokeyClock, p.ayClock], 0 < f.num ∧ 0 < f.den) ∧
      ∀ e ∈ p.cycles, 1 ≤ e.cost := by
  rw [Params.wf, Bool.and_eq_true, Bool.and_eq_true, and_assoc]
  refine and_congr ?range (and_congr (by simp) (by simp))
  case range => cases p.chip <;> simp

namespace Machine

/-! ### Session creation -/

/-- A listed byte of `INIT_MEM` replaces the one before it. -/
theorem State.fill_read (a : Word) (cells : List (Word × Byte)) : ∀ s : State,
    (s.fill cells).read a = cells.foldl (fun v c => if c.1 = a then c.2 else v) (s.read a) := by
  induction cells with
  | nil => exact fun _ => rfl
  | cons c cells ih =>
    intro s
    rw [State.fill, ih, State.read_store, List.foldl_cons]
    simp only [eq_comm (a := a)]

/-- `INIT_MEM` goes to memory alone. -/
theorem State.fill_frame (cells : List (Word × Byte)) : ∀ s : State,
    s.fill cells = { s with mem := (s.fill cells).mem } := by
  induction cells with
  | nil => exact fun _ => rfl
  | cons c cells ih => exact fun s => ih (s.store c.1 c.2)

theorem createSession_wf (p : Params) (initMem : List (Word × Byte)) :
    Memory.wf (createSession p initMem).mem = true :=
  State.fill_wf initMem _ rfl

theorem createSession_params (p : Params) (initMem : List (Word × Byte)) : (createSession p initMem).params = p := by
  rw [createSession, State.fill_frame]; rfl

theorem createSession_shadow (p : Params) (initMem : List (Word × Byte)) :
    (createSession p initMem).shadow = List.replicate p.chipSize 0 := by
  rw [createSession, State.fill_frame]; rfl

theorem createSession_aySel (p : Params) (initMem : List (Word × Byte)) : (createSession p initMem).aySel = 0 := by
  rw [createSession, State.fill_frame]; rfl

/-! ### The form of the state -/

theorem createSession_inv (p : Params) (initMem : List (Word × Byte)) : (createSession p initMem).Inv :=
  ⟨createSession_wf p initMem, by rw [createSession_shadow, createSession_params, List.length_replicate]⟩

theorem State.loadBlock_inv {s : State} (h : s.Inv) (a : Word) (bytes : List Byte) : (s.loadBlock a bytes).Inv := by
  obtain ⟨wf, size⟩ := h
  refine ⟨State.loadBlock_wf bytes s a wf, ?_⟩
  rw [State.loadBlock_frame]
  exact size

theorem State.resetCpu_inv {s : State} (h : s.Inv) (pc sp : Word) : (s.resetCpu pc sp).Inv := by
  unfold resetCpu
  cases s.params.cpu <;> exact h

theorem State.writeAll_inv (ws : List (Word × Byte)) : ∀ s : State, s.Inv → (s.writeAll ws).Inv := by
  induction ws with
  | nil => exact fun _ h => h
  | cons w ws ih => exact fun s h => ih _ (State.write_inv s w.1 w.2 h)

theorem State.enterRoutine_inv {s : State} (h : s.Inv) (target : Word) : (s.enterRoutine target).Inv := by
  cases cpu : s.params.cpu with
  | a => rw [enterRoutine_cpuA cpu]; exact writeAll_inv _ s h
  | b => rw [enterRoutine_cpuB cpu]; exact writeAll_inv _ s h

/-- A run is an entry and steps. -/
theorem runUntilStackDepth_inv {s : State} (h : s.Inv) (target : Word) (maxCycles : Nat) :
    (runUntilStackDepth s target maxCycles).2.Inv := by
  obtain ⟨k, _, _, run⟩ := runUntilStackDepth_eq s target maxCycles
  rw [run]
  exact State.iterate_next (P := State.Inv) (fun _ => State.next_inv) (State.enterRoutine_inv h target) k

theorem Song.loaded_inv (g : Song) (code : List Byte) (a : Word) : (g.loaded code a).Inv :=
  runUntilStackDepth_inv (State.resetCpu_inv (State.loadBlock_inv (createSession_inv _ _) a code) _ _) _ _

/-! ### The driver -/

theorem Driver.load_of_not_idle {d : Driver} (past : d.phase ≠ .idle) (code : List Byte) (a : Word) :
    d.load code a = none := by
  unfold Driver.load
  cases phase : d.phase with
  | idle => exact absurd phase past
  | initialized | replaying => rfl

theorem Driver.advanceTick_of_none {d : Driver} (before : d.session = none) : d.advanceTick = none := by
  rw [advanceTick, before]

theorem Driver.advanceTick_of_some {d : Driver} {s : State} (session : d.session = some s) :
    d.advanceTick = some { d with
      phase := .replaying
      session := some (d.song.ticked s)
      snapshots := d.snapshots ++ [{ tick := d.snapshots.length
                                     voices := deriveVoices (d.song.ticked s).params (d.song.ticked s).shadow }] } := by
  rw [advanceTick, session]

/-- What the host accepts (R631, 93_implementation_defined.md U6, U7, U8, U11). -/
theorem Song.ok_iff (g : Song) :
    g.ok = true ↔
      2 ≤ g.resetDepth ∧
      (g.params.chip ≠ .ay → g.params.chipBase + g.params.chipSize ≤ 65536) ∧
      (∀ f ∈ [g.params.nesClock, g.params.sidClock, g.params.pokeyClock, g.params.ayClock], 0 < f.num ∧ 0 < f.den) ∧
      ∀ e ∈ g.params.cycles, 1 ≤ e.cost := by
  rw [ok, Bool.and_eq_true, decide_eq_true_iff, Params.wf_iff, and_comm]

/-- The depth of the host's stack pointer at the register's width (R631). -/
theorem Song.resetDepth_eq (g : Song) :
    g.resetDepth = match g.params.cpu with
      | .a => g.resetSp.toNat % 256
      | .b => g.resetSp.toNat := by
  unfold resetDepth
  cases g.params.cpu with
  | a => exact loByte_toNat g.resetSp
  | b => rfl

end Machine

end Sys2Proof

namespace Sys2Proof.Proofs

open Sys2Proof.Machine

/-- Settles O6: `reset` replaces the registers of the session's CPU by those of R39. -/
theorem resetSetsEveryRegister : Obligations.ResetSetsEveryRegister := by
  intro s pc sp
  unfold State.resetCpu
  cases s.params.cpu <;> rfl

/-- Settles O60: creation by `INIT_MEM`, the accepted songs by their four conditions, `load` and `advanceTick` by the
driver's phase and session. -/
theorem driverLoadsAndTicks : Obligations.DriverLoadsAndTicks := by
  refine ⟨fun p initMem => ?created, fun g => ?accepted, fun g code a => rfl,
    fun g code a => ⟨rfl, g.loaded_inv code a⟩, fun d s session => Driver.advanceTick_of_some session,
    fun d code a => ⟨fun past => Driver.load_of_not_idle past code a, Driver.advanceTick_of_none⟩⟩
  case created =>
    exact ⟨createSession_params p initMem, createSession_shadow p initMem, createSession_aySel p initMem,
      createSession_wf p initMem, fun a => State.fill_read a initMem _⟩
  case accepted => exact g.ok_iff.trans (and_congr_left' (iff_of_eq (congrArg (2 ≤ ·) g.resetDepth_eq)))

end Sys2Proof.Proofs
end

section
/-! PROOF. What an instruction has no part in (60_exceptions.md R593, 70_reset_and_hazards.md R640, 10_state.md R38):
the cycle table, the registers of the other CPU and, on CPU-A, the AY latch. An instruction carries any values of them
along and does the same besides; so the table cannot be told from what it does, and, because it carries the session's
own values along, it writes none of them. -/

namespace Sys2Proof.Machine

/-- The state with what the instructions of CPU `c` have no part in taken from `u`. -/
def State.withUnseen (s : State) (c : CpuKind) (u : State) : State :=
  match c with
  | .a => { s with params := { s.params with cycles := u.params.cycles }, cpuB := u.cpuB, aySel := u.aySel }
  | .b => { s with params := { s.params with cycles := u.params.cycles }, cpuA := u.cpuA }

theorem State.withUnseen_self (s : State) (c : CpuKind) : s.withUnseen c s = s := by cases c <;> rfl

/-! ### Updates -/

/-- `t` is `s` with what the instructions of CPU `c` have no part in taken from `u`. -/
def State.Carried (c : CpuKind) (u s t : State) : Prop := t = s.withUnseen c u

namespace State.Carried

variable {c : CpuKind} {u s t : State}

theorem same (s u : State) : Carried c u s (s.withUnseen c u) := rfl

theorem write (h : Carried c u s t) {a : Word} {v : Byte} : Carried c u (s.write a v) (t.write a v) := by
  have stored : (s.withUnseen c u).store a v = (s.store a v).withUnseen c u := by cases c <;> rfl
  have index (r : State) : (r.withUnseen c u).chipIndex a = r.chipIndex a := by cases c <;> rfl
  rw [Carried, h, State.write, State.write, stored, forward, forward, index]
  cases (s.store a v).chipIndex a with
  | none => rfl
  | some k => cases c <;> rfl

theorem ioWrite (h : Carried .b u s t) {p : Word} {v : Byte} : Carried .b u (s.ioWrite p v) (t.ioWrite p v) := by
  have chip : (s.withUnseen .b u).params.chip = s.params.chip := rfl
  have role : portRole (s.withUnseen .b u).params p = portRole s.params p := rfl
  have sel : (s.withUnseen .b u).aySel = s.aySel := rfl
  rw [Carried, h]
  unfold State.ioWrite ayWrite
  rw [chip, role, sel]
  repeat' split
  all_goals rfl

theorem setA (h : Carried .a u s t) {v : Byte} : Carried .a u (s.setA v) (t.setA v) := by rw [h]; rfl

theorem setS (h : Carried .a u s t) {v : Byte} : Carried .a u (s.setS v) (t.setS v) := by rw [h]; rfl

theorem setNZ (h : Carried .a u s t) {v : Byte} : Carried .a u (s.setNZ v) (t.setNZ v) := by rw [h]; rfl

theorem setP (h : Carried .a u s t) {p : PFlags} : Carried .a u (s.setP p) (t.setP p) := by rw [h]; rfl

theorem setSp (h : Carried .b u s t) {w : Word} : Carried .b u (s.setSp w) (t.setSp w) := by rw [h]; rfl

theorem setBc (h : Carried .b u s t) {w : Word} : Carried .b u (s.setBc w) (t.setBc w) := by rw [h]; rfl

theorem setDe (h : Carried .b u s t) {w : Word} : Carried .b u (s.setDe w) (t.setDe w) := by rw [h]; rfl

theorem setHl (h : Carried .b u s t) {w : Word} : Carried .b u (s.setHl w) (t.setHl w) := by rw [h]; rfl

theorem setFlags (h : Carried .b u s t) {fl : FlagSet} : Carried .b u (s.setFlags fl) (t.setFlags fl) := by rw [h]; rfl

theorem setDigits (h : Carried .b u s t) {a : Byte} : Carried .b u (s.setDigits a) (t.setDigits a) := by rw [h]; rfl

theorem setReg (h : Carried .b u s t) {r : Reg8} {v : Byte} : Carried .b u (s.setReg r v) (t.setReg r v) := by
  rw [h]; cases r <;> rfl

theorem setPair (h : Carried .b u s t) {p : Pair} {w : Word} : Carried .b u (s.setPair p w) (t.setPair p w) := by
  rw [h]; cases p <;> rfl

theorem setStackPair (h : Carried .b u s t) {q : StackPair} {w : Word} :
    Carried .b u (s.setStackPair q w) (t.setStackPair q w) := by
  rw [h]; cases q <;> rfl

theorem setIndex (h : Carried .b u s t) {i : Index} {w : Word} :
    Carried .b u (s.setIndex i w) (t.setIndex i w) := by
  rw [h]; cases i <;> rfl

/-- The target of CPU-A's shifts and rotates, written first. -/
theorem setTarget {g : ATarget} {r : Byte} : Carried .a u (s.setTarget g r) ((s.withUnseen .a u).setTarget g r) := by
  cases g with
  | acc => exact (same s u).setA
  | mem m => exact (same s u).write

/-- The location of INC, DEC and the CB family, written first. -/
theorem setLoc8 {v : Loc8} {r : Byte} : Carried .b u (s.setLoc8 v r) ((s.withUnseen .b u).setLoc8 v r) := by
  cases v with
  | reg q => exact (same s u).setReg
  | hl | idx i d => exact (same s u).write

end State.Carried

/-! ### Instructions -/

/-- What runs as `e` on CPU `c` does the same for all values of what it has no part in and carries them along; only the
cost may come out otherwise. -/
def CarriesUnseen (c : CpuKind) (e : State → Result) : Prop :=
  ∀ s t u, e s = .next t → ∃ n, e (s.withUnseen c u) = .next { t.withUnseen c u with cycles := n }

namespace CarriesUnseen

open State (Carried)

/-- An address, a condition or a variant comes out the same for all values of what CPU `c` has no part in. -/
abbrev Same (c : CpuKind) {α : Type} (g : State → α) : Prop := ∀ s u, g (s.withUnseen c u) = g s

section
variable {i : Instr} {f : State → State} {w : State → Word} {v again : State → Bool}

theorem jumpA (hf : ∀ s u, Carried .a u (f s) (f (s.withUnseen .a u))) (hw : Same .a w) (hv : Same .a v) :
    CarriesUnseen .a (fun s => Machine.jumpA i (v s) f (w s) s) := by
  intro s t u ht
  refine ⟨cyc ((f s).withUnseen .a u).params i (v s), ?_⟩
  rw [jumpA_next ht]; beta_reduce; rw [hw, hv]
  exact congrArg (fun r : State => (.next ((r.setPcA (w s)).charge i (v s)) : Result)) (hf s u)

theorem passA (hf : ∀ s u, Carried .a u (f s) (f (s.withUnseen .a u))) : CarriesUnseen .a (runA i f) :=
  jumpA hf (fun _ _ => rfl) (fun _ _ => rfl)

theorem jumpB (hf : ∀ s u, Carried .b u (f s) (f (s.withUnseen .b u))) (hw : Same .b w) (hv : Same .b v) :
    CarriesUnseen .b (fun s => Machine.jumpB i (v s) f (w s) s) := by
  intro s t u ht
  refine ⟨cyc ((f (s.advanceR i.fetches)).withUnseen .b u).params i (v s), ?_⟩
  rw [jumpB_next ht]; beta_reduce; rw [hw, hv]
  exact congrArg (fun r : State => (.next ((r.setPcB (w s)).charge i (v s)) : Result)) (hf (s.advanceR i.fetches) u)

theorem passB (hf : ∀ s u, Carried .b u (f s) (f (s.withUnseen .b u))) : CarriesUnseen .b (runB i f) :=
  jumpB hf (fun _ _ => rfl) (fun _ _ => rfl)

theorem repeating (hf : ∀ s u, Carried .b u (f s) (f (s.withUnseen .b u))) (ha : Same .b again) :
    CarriesUnseen .b (repeatB i f again) := by
  have more (s u : State) : again (f ((s.withUnseen .b u).advanceR i.fetches)) = again (f (s.advanceR i.fetches)) :=
    (congrArg again (hf (s.advanceR i.fetches) u)).trans (ha _ u)
  have stays : CarriesUnseen .b (fun s => Machine.jumpB i true f s.cpuB.pc s) :=
    jumpB hf (fun _ _ => rfl) (fun _ _ => rfl)
  have passes : CarriesUnseen .b (runB i f) := passB hf
  intro s t u ht
  obtain ⟨on, rfl⟩ | ⟨off, rfl⟩ := repeatB_next ht
  · refine (stays s _ u rfl).imp fun n run => ?_
    exact (if_pos ((more s u).trans on)).trans run
  · refine (passes s _ u rfl).imp fun n run => ?_
    exact (if_neg (by rw [more, off]; decide)).trans run

/-- A conditional call or return: where the condition does not hold it passes by. -/
theorem conditional (hf : ∀ s u, Carried .b u (f s) (f (s.withUnseen .b u))) (hv : Same .b v) (hw : Same .b w) :
    CarriesUnseen .b (fun s => if v s then Machine.jumpB i true f (w s) s else runB i id s) := by
  have taken : CarriesUnseen .b (fun s => Machine.jumpB i true f (w s) s) := jumpB hf hw (fun _ _ => rfl)
  have passed : CarriesUnseen .b (runB i id) := passB Carried.same
  intro s t u ht
  beta_reduce at ht ⊢
  rw [hv]
  by_cases h : v s
  · rw [if_pos h] at ht ⊢; exact taken s t u ht
  · rw [if_neg h] at ht ⊢; exact passed s t u ht

end

end CarriesUnseen

open State.Carried in
/-- Every instruction carries along what its CPU has no part in: the split is that of the instruction rules by the
updates they make. -/
theorem exec_carriesUnseen (i : Instr) : CarriesUnseen i.cpu (exec i) := by
  unfold exec
  cases i with
  -- CPU-A
  | aLda | aLdx | aLdy | aTax | aTay | aTxa | aTya | aTsx | aTxs | aPla | aPlp | aAdc | aSbc | aAnd | aOra | aEor
  | aCmp | aCpx | aCpy | aBit | aInx | aIny | aDex | aDey | aClc | aSec | aCli | aSei | aClv | aCld | aSed
  | aNop | aNop1 | aNop2 | aUnk | aBrk | aRti => exact .passA fun _ _ => rfl
  | aSta | aStx | aSty => exact .passA fun s u => (same s u).write
  | aPha | aPhp => exact .passA fun s u => (same s u).write.setS
  | aInc | aDec => exact .passA fun s u => (same s u).write.setNZ
  | aAsl | aLsr | aRol | aRor => exact .passA fun _ _ => setTarget.setP
  | aBpl | aBmi | aBvc | aBvs | aBcc | aBcs | aBne | aBeq | aJmp | aJmpInd | aRts =>
    exact .jumpA (fun _ _ => rfl) (fun _ _ => rfl) (fun _ _ => rfl)
  | aJsr => exact .jumpA (fun s u => (same s u).write.setS.write.setS) (fun _ _ => rfl) (fun _ _ => rfl)
  -- CPU-B: loads, stack, exchanges
  | bLdRR | bLdRN | bLdRHl | bLdRXy => exact .passB fun s u => (same s u).setReg
  | bLdHlR | bLdXyR | bLdHlN | bLdXyN | bLdBcA | bLdDeA | bLdMemA => exact .passB fun s u => (same s u).write
  | bLdDdNn | bLdDdMem | bIncSs | bDecSs => exact .passB fun s u => (same s u).setPair
  | bLdXyNn | bLdXyMem | bIncXy | bDecXy => exact .passB fun s u => (same s u).setIndex
  | bLdMemHl | bLdMemDd | bLdMemXy => exact .passB fun s u => (same s u).write.write
  | bPush | bPushXy => exact .passB fun s u => (same s u).write.write.setSp
  | bPop => exact .passB fun s u => (same s u).setSp.setStackPair
  | bPopXy => exact .passB fun s u => (same s u).setSp.setIndex
  | bExSpHl => exact .passB fun s u => (same s u).write.write.setHl
  | bExSpXy => exact .passB fun s u => (same s u).write.write.setIndex
  -- CPU-B: block transfer and search, input and output
  | bLdi | bLdd => exact .passB fun s u => (same s u).write.setHl.setDe.setBc.setFlags
  | bLdir | bLddr => exact .repeating (fun s u => (same s u).write.setHl.setDe.setBc.setFlags) (fun _ _ => rfl)
  | bCpi | bCpd => exact .passB fun _ _ => rfl
  | bCpir | bCpdr => exact .repeating (fun _ _ => rfl) (fun _ _ => rfl)
  | bInRC => exact .passB fun s u => (same s u).setReg.setFlags
  | bIni | bInd => exact .passB fun s u => (same s u).write.setHl.setReg.setFlags
  | bInir | bIndr => exact .repeating (fun s u => (same s u).write.setHl.setReg.setFlags) (fun _ _ => rfl)
  | bOutNA | bOutCR => exact .passB fun s u => (same s u).ioWrite
  | bOuti | bOutd => exact .passB fun s u => (same s u).ioWrite.setHl.setReg.setFlags
  | bOtir | bOtdr => exact .repeating (fun s u => (same s u).ioWrite.setHl.setReg.setFlags) (fun _ _ => rfl)
  -- CPU-B: locations, digits, ADD XY
  | bInc | bDec | bRlc | bRrc | bRl | bRr | bSla | bSra | bSrl => exact .passB fun _ _ => setLoc8.setFlags
  | bSet | bRes => exact .passB fun _ _ => setLoc8
  | bRld | bRrd => exact .passB fun s u => (same s u).write.setDigits
  | bAddXy => exact .passB fun s u => (same s u).setIndex.setFlags
  -- CPU-B: jumps, calls, returns
  | bJp | bJr | bJpHl | bJpXy | bRet | bReti | bRetn | bHalt =>
    exact .jumpB (fun _ _ => rfl) (fun _ _ => rfl) (fun _ _ => rfl)
  | bJpCc cc => cases cc <;> exact .jumpB (fun _ _ => rfl) (fun _ _ => rfl) (fun _ _ => rfl)
  | bJrCc cc => cases cc <;> exact .jumpB (fun _ _ => rfl) (fun _ _ => rfl) (fun _ _ => rfl)
  | bDjnz =>
    exact .jumpB (f := fun s => s.setReg .b (s.reg .b - 1)) (fun s u => (same s u).setReg) (fun _ _ => rfl)
      (fun _ _ => rfl)
  | bCall | bRst => exact .jumpB (fun s u => (same s u).write.write.setSp) (fun _ _ => rfl) (fun _ _ => rfl)
  | bCallCc cc =>
    exact .conditional (fun s u => (same s u).write.write.setSp) (fun _ _ => State.cond_congr rfl cc) (fun _ _ => rfl)
  | bRetCc cc =>
    exact .conditional (fun s u => (same s u).setSp) (fun _ _ => State.cond_congr rfl cc) (fun _ _ => rfl)
  -- CPU-B: `A`, `F`, `HL` and `SP`, the banks, and the registers of the CPU's control
  | bLdABc | bLdADe | bLdAMem | bLdAI | bLdARefresh | bLdIA | bLdRefreshA | bLdHlMem | bLdSpHl | bLdSpXy | bExDeHl
  | bExAf | bExx | bAdd | bAdc | bSub | bSbc | bAnd | bXor | bOr | bCp | bDaa | bCpl | bNeg | bCcf | bScf | bAddHl
  | bAdcHl | bSbcHl | bRlca | bRla | bRrca | bRra | bBit | bInAN | bNop | bDi | bEi | bIm | bUnkCb | bUnkEd | bUnkXy
  | bUnkXycb => exact .passB fun _ _ => rfl

/-- An instruction writes nothing of what its CPU has no part in: it carries the session's own values of it along. -/
theorem exec_keepsUnseen {i : Instr} {s t : State} (ht : exec i s = .next t) : t.withUnseen i.cpu s = t := by
  obtain ⟨n, again⟩ := exec_carriesUnseen i s t s ht
  rw [State.withUnseen_self] at again
  have own : t = { t.withUnseen i.cpu s with cycles := n } := by injection ht.symm.trans again
  rw [own]
  cases i.cpu <;> rfl

end Sys2Proof.Machine

namespace Sys2Proof.Proofs

open Sys2Proof.Machine

/-- Settles O9: the decoded instruction is one of the session's CPU, and writes nothing that its CPU has no part in. -/
theorem stepTouchesOnlyItsOwnCpu : Obligations.StepTouchesOnlyItsOwnCpu := by
  intro s t ht
  have kept : t.withUnseen s.params.cpu s = t := s.fetch_cpu ▸ exec_keepsUnseen ht
  refine ⟨(exec_runs s.fetch).params ht, fun cpu => ?_, fun cpu => ?_⟩
  all_goals rw [cpu] at kept
  · exact ⟨congrArg (·.cpuB) kept.symm, congrArg (·.aySel) kept.symm⟩
  · exact congrArg (·.cpuA) kept.symm

/-- Settles O17: another cycle table is carried along. -/
theorem cycleTableIsInvisible : Obligations.CycleTableIsInvisible := by
  intro i s t table ht
  let u : State := { s with params := { s.params with cycles := table } }
  have other : s.withUnseen i.cpu u = u := by cases i.cpu <;> rfl
  have carried : t.withUnseen i.cpu u = { t with params := { t.params with cycles := table } } := by
    rw [← exec_keepsUnseen ht]
    cases i.cpu <;> rfl
  obtain ⟨n, run⟩ := exec_carriesUnseen i s t u ht
  rw [other, carried] at run
  exact ⟨n, run⟩

end Sys2Proof.Proofs
end

section
/-! PROOF. The default cycle tables (70_reset_and_hazards.md R640 to R642): a default cost goes by the opcode bytes
alone, whatever the operand bytes are, so each map's table is one evaluation over its opcodes. -/

namespace Sys2Proof

/-! ### Operand bytes -/

theorem decodeA_defaultCycles (b0 b1 b2 : Byte) (v : Bool) :
    (decodeA b0 b1 b2).defaultCycles v = (decodeA b0 0 0).defaultCycles v := by
  obtain ⟨h, l, rfl⟩ := exists_nibbles b0
  fin_cases h <;> fin_cases l <;> rfl

theorem decodeED_defaultCycles (b1 l h : Byte) (v : Bool) :
    (decodeED b1 l h).defaultCycles v = (decodeED b1 0 0).defaultCycles v := by
  cases assigned : edOpcodes.contains b1 with
  | false => rw [decodeED_unassigned assigned, decodeED_unassigned assigned]
  | true =>
    have mem : b1 ∈ edOpcodes := List.contains_iff_mem.mp assigned
    fin_cases mem <;> rfl

theorem decodeXY_defaultCycles {b1 : Byte} (xycb : b1 ≠ 0xCB) (i : Index) (b2 b3 : Byte) (v : Bool) :
    (decodeXY i b1 b2 b3).defaultCycles v = (decodeXY .ix b1 0 0).defaultCycles v := by
  cases assigned : xyOpcodes.contains b1 with
  | false => rw [decodeXY_lone assigned, decodeXY_lone assigned]; rfl
  | true =>
    have mem : b1 ∈ xyOpcodes.erase 0xCB := (List.mem_erase_of_ne xycb).mpr (List.contains_iff_mem.mp assigned)
    fin_cases mem <;> rfl

/-- A byte of the main map that selects no other map (R124). -/
abbrev IsPlain (b0 : Byte) : Prop := b0 ≠ 0xCB ∧ b0 ≠ 0xED ∧ b0 ≠ 0xDD ∧ b0 ≠ 0xFD

theorem decodeMain3_defaultCycles {y z : Fin 8} (plain : IsPlain (oct 3 y z)) (b1 b2 b3 : Byte) (v : Bool) :
    (decodeMain3 y z b1 b2 b3).defaultCycles v = (decodeMain3 y z 0 0 0).defaultCycles v := by
  match z with
  | 0 | 1 | 2 | 4 | 6 | 7 => fin_cases y <;> rfl
  | 3 =>
    match y with
    | 1 => exact absurd plain (by decide)
    | 0 | 2 | 3 | 4 | 5 | 6 | 7 => rfl
  | 5 =>
    match y with
    | 3 | 5 | 7 => exact absurd plain (by decide)
    | 0 | 1 | 2 | 4 | 6 => rfl

theorem decodeB_defaultCycles {b0 : Byte} (plain : IsPlain b0) (b1 b2 b3 : Byte) (v : Bool) :
    (decodeB b0 b1 b2 b3).defaultCycles v = (decodeB b0 0 0 0).defaultCycles v := by
  obtain ⟨x, y, z, rfl⟩ := exists_oct b0
  match x with
  | 0 =>
    rw [decodeB_oct_zero, decodeB_oct_zero]
    fin_cases z <;> fin_cases y <;> rfl
  | 1 => rw [decodeB_oct_one, decodeB_oct_one]
  | 2 => rw [decodeB_oct_two, decodeB_oct_two]
  | 3 => rw [decodeB_oct_three, decodeB_oct_three, decodeMain3_defaultCycles plain]

/-! ### The CB family -/

theorem decodeCB_defaultCycles (b1 : Byte) (v : Bool) :
    (decodeCB b1).defaultCycles v =
      if b1 &&& 0x07 = 0x06 ∧ b1 ≠ 0x36 then (if b1 &&& 0xC0 = 0x40 then 12 else 15) else 8 := by
  obtain ⟨o, y, z, rfl⟩ := exists_oct b1
  decide +revert

theorem cbOf_defaultCycles (o : Fin 4) (y : Fin 8) (q : Loc8) (v : Bool) :
    (cbOf o y q).defaultCycles v = if o = 1 then q.cyclesBit else q.cyclesCB := by
  match o with
  | 0 => fin_cases y <;> rfl
  | 1 | 2 | 3 => rfl

theorem decodeXYCB_defaultCycles (i : Index) (d x : Byte) (v : Bool) :
    (decodeXYCB i d x).defaultCycles v = if x &&& 0xC7 = 0x46 then 20 else 23 := by
  cases assigned : xycbAssigned x with
  | false =>
    have other : x &&& 0xC7 ≠ 0x46 := by
      obtain ⟨o, y, z, rfl⟩ := exists_oct x
      decide +revert
    rw [decodeXYCB_unassigned assigned, if_neg other]; rfl
  | true =>
    obtain ⟨o, y, z, rfl⟩ := exists_oct x
    obtain ⟨rfl, cell⟩ := (xycbAssigned_oct o y z).mp assigned
    have bits : oct o y 6 &&& 0xC7 = 0x46 ↔ o = 1 := by decide +revert
    rw [decodeXYCB_assigned cell, cbOf_defaultCycles, if_congr bits rfl rfl]; rfl

namespace Machine

/-! ### The session's table -/

section
variable {p : Params} {i : Instr} {v : Bool}

/-- An instruction without an entry for its variant costs its default (R640, log entry 9). -/
theorem cyc_unlisted (others : ∀ e ∈ p.cycles, e.opcode = opcodeKey i → e.variant ≠ v) :
    cyc p i v = i.defaultCycles v := by
  have absent : p.cycles.find? (fun e => e.opcode == opcodeKey i && e.variant == v) = none := by simpa using others
  rw [cyc, absent]

/-- Another costs what its first entry says. -/
theorem cyc_first {before after : List CycleEntry} {e : CycleEntry} (listed : p.cycles = before ++ e :: after)
    (others : ∀ x ∈ before, x.opcode = opcodeKey i → x.variant ≠ v) (opcode : e.opcode = opcodeKey i)
    (variant : e.variant = v) (least : 1 ≤ e.cost) : cyc p i v = e.cost := by
  have none_before : before.find? (fun e => e.opcode == opcodeKey i && e.variant == v) = none := by simpa using others
  have found : p.cycles.find? (fun e => e.opcode == opcodeKey i && e.variant == v) = some e := by
    rw [listed, List.find?_append, none_before, Option.none_or]
    exact List.find?_cons_of_pos (by rw [opcode, variant, beq_self_eq_true, beq_self_eq_true]; rfl)
  rw [cyc, found]
  exact max_eq_right least

end

end Machine

end Sys2Proof

namespace Sys2Proof.Proofs

open Sys2Proof.Machine

/-- Settles O18: the costs of each map go by its opcode bytes, so with the operand bytes out of the way its table is
compared in one evaluation; the CB families by their laws. A session's table is searched from its front. -/
theorem defaultCostTables : Obligations.DefaultCostTables := by
  refine ⟨fun b0 b1 b2 => ?cpuA, fun b0 b1 b2 b3 => ?cpuB, fun p i v => ⟨cyc_unlisted, fun _ _ _ => cyc_first⟩⟩
  case cpuA =>
    rw [decodeA_defaultCycles b0 b1 b2, decodeA_defaultCycles b0 b1 b2]
    clear b1 b2
    decide +kernel +revert
  case cpuB =>
    intro i
    by_cases cb : b0 = 0xCB
    · subst cb
      exact ⟨decodeCB_defaultCycles b1 false,
        (decodeCB_defaultCycles b1 true).trans (decodeCB_defaultCycles b1 false).symm⟩
    by_cases ed : b0 = 0xED
    · subst ed
      have costs (v : Bool) : i.defaultCycles v = (decodeED b1 0 0).defaultCycles v :=
        decodeED_defaultCycles b1 b2 b3 v
      rw [costs, costs, if_neg (by decide), if_pos rfl]
      clear costs i b2 b3
      decide +kernel +revert
    have noBlock : ¬ (b0 = 0xED ∧ b1 &&& 0xF4 = 0xB0) := fun h => ed h.1
    rw [if_neg cb, if_neg ed, if_neg noBlock]
    by_cases xy : b0 = 0xDD ∨ b0 = 0xFD
    · obtain ⟨k, map⟩ : ∃ k, i = decodeXY k b1 b2 b3 := by
        obtain rfl | rfl := xy
        · exact ⟨.ix, rfl⟩
        · exact ⟨.iy, rfl⟩
      have oneVariant (n : Nat) : (if b0 = 0x10 then 13 else if b0 &&& 0xE7 = 0x20 then 12
          else if b0 &&& 0xC7 = 0xC0 then 11 else if b0 &&& 0xC7 = 0xC4 then 17 else n) = n := by
        obtain rfl | rfl := xy <;> rfl
      rw [if_pos xy, oneVariant]
      by_cases xycb : b1 = 0xCB
      · subst xycb
        have costs (v : Bool) : i.defaultCycles v = if b3 &&& 0xC7 = 0x46 then 20 else 23 :=
          map ▸ decodeXYCB_defaultCycles k b2 b3 v
        rw [costs, costs, if_pos rfl]
        exact ⟨rfl, rfl⟩
      · have costs (v : Bool) : i.defaultCycles v = (decodeXY .ix b1 0 0).defaultCycles v :=
          map ▸ decodeXY_defaultCycles xycb k b2 b3 v
        rw [costs, costs, if_neg xycb]
        clear * - xycb
        decide +kernel +revert
    · have costs (v : Bool) : i.defaultCycles v = (decodeB b0 0 0 0).defaultCycles v :=
        decodeB_defaultCycles ⟨cb, ed, not_or.mp xy⟩ b1 b2 b3 v
      rw [costs, costs, if_neg xy]
      clear * - cb ed xy
      decide +kernel +revert

end Sys2Proof.Proofs
end
